-- ==== Sys2Proof/Word.lean ====
section
/-! DEFINITION. The bit-vector types the manual treats as bits: bytes on the line and on the media, chunk checks and
clip digests (06 R134, R136), the frame check (08 R162). Counts, ids, sectors and lengths are natural numbers. -/

namespace Sys2Proof

/-- One byte of a frame or of a sector. -/
abbrev Byte := BitVec 8

/-- A chunk check, or the register that computes one (06 R134). -/
abbrev Check := BitVec 32

/-- A clip digest, or a running remainder (06 R136). -/
abbrev Digest := BitVec 64

/-- The 16 bytes of a media id (02 R39, 04 R88), in the order the medium gives them: the model's choice (log 23). -/
abbrev MediaId := Vector Byte 16

end Sys2Proof
end

