-- ==== Sys2Proof/Config.lean ====
section
/-! DEFINITION. What the part fixes (sizes and limits of the manual) and the values the manual leaves open. -/

namespace Sys2Proof.Config

/-- Bytes of a sector (00, Sectors, extents and streams). -/
abbrev sectorBytes : Nat := 512

/-- Sectors of a full chunk (06 R132). -/
abbrev chunkSectors : Nat := 2048

/-- Staging slots (03 R62). -/
abbrev slotCount : Nat := 512

/-- Clip records the table holds at most (01 R1). -/
abbrev tableSize : Nat := 256

/-- Checks the Check Store reserves at most (06 R140). -/
abbrev storeSize : Nat := 1048576

/-- Extents of one list at most (01 R4, check 4). -/
abbrev maxExtents : Nat := 16

/-- Destinations of one clip at most (01 R4, check 5). -/
abbrev maxDestinations : Nat := 4

/-- The largest capacity used, in sectors (02 R39, 04 R88). -/
abbrev maxCapacity : Nat := 2 ^ 40

/-- The generation after which 1 follows (02 R38, 04 R87). -/
abbrev maxGeneration : Nat := 65535

/-- Retries of one card command (02 R45). -/
abbrev cardRetries : Nat := 3

/-- Retries of one drive command (04 R90). -/
abbrev driveRetries : Nat := 2

/-- Records of one pass-through list at most (07 R148). -/
abbrev passThroughLimit : Nat := 4

/-- Sectors of one pass-through request at most (07 R149). -/
abbrev passThroughSectors : Nat := 64

/-- Entries of one repair list at most (02 R52). -/
abbrev repairListLimit : Nat := 32

/-- Repairs one destination is allowed (05 R120). -/
abbrev repairLimit : Nat := 4

/-- The write-queue length below which a repair has room (03 R74). -/
abbrev repairRoom : Nat := 120

/-- Entries of one write queue at most (04 R95). -/
abbrev writeQueueLimit : Nat := 128

/-- Entries of one verify backlog at most (05 R112). -/
abbrev backlogLimit : Nat := 1024

/-- Tags outstanding at most (08 R165). -/
abbrev tagLimit : Nat := 8

/-- Link refusals waiting at most (08 R165). -/
abbrev linkRefusalLimit : Nat := 8

/-- Notices waiting at most (08 R169). -/
abbrev noticeQueueSize : Nat := 64

/-- The value at which the lost count stays (08 R169). -/
abbrev lostMax : Nat := 65535

/-- The largest length field of a frame (08 R162). -/
abbrev maxLength : Nat := 32800

/-- Chunks one READ CHECKS asks for at most (06 R146). -/
abbrev maxChecks : Nat := 1024

/-- The largest value of an interval count or a cumulative counter (09 R178, R182). -/
abbrev counterMax : Nat := 4294967295

/-- Counters of the Summary Unit (09 R182). -/
abbrev counterCount : Nat := 29

/-- FREE VALUE. The bytes of a reply field whose "present" flag says absent (08 R177 gives the field's size and no value):
the model's n-th free byte. Nothing constrains it (log 6; safe). -/
opaque freeByte : Nat → Byte

end Sys2Proof.Config
end

