-- ==== Sys2Proof/Syntax.lean ====
section
/-! DEFINITION. The commands: one constructor for each row of spec/opcode_table.json, with the row's operands. -/

namespace Sys2Proof

/-- A card port, CP0 to CP7 (00, Ports, identifiers and generations). -/
abbrev CardId := Fin 8

/-- A drive port, DP0 to DP3. -/
abbrev DriveId := Fin 4

/-- A port of either kind (08 R177, field "port"). -/
inductive PortId where
  | card (p : CardId)
  | drive (d : DriveId)
  deriving DecidableEq, Repr

/-- What the line delivers as one byte: the byte, or a byte error when the stop bit is missing (08 R161). -/
inductive LineByte where
  | byte (b : Byte)
  | error
  deriving DecidableEq, Repr

/-- What a medium answers to a command (02 R45, 04 R90): success of a write, the data of a read, or an item of identity
(02 R39: sector size and capacity first, the media id second). A media error and silence are rows of their own. -/
inductive Answer where
  | success
  | data (bytes : List Byte)
  | geometry (sectorSize capacity : Nat)
  | mediaId (id : MediaId)
  deriving DecidableEq, Repr

/-- The commands. A request carries its frame's tag and body (08 R162, R167); its kind byte is the row's (R177).
An event at a port carries the port and what the medium or the line delivers. -/
inductive Instr where
  /-- NRESET, with the straps LRATE1 LRATE0 and the detect lines' levels at its end (bit i is CPi, DPi). -/
  | powerOnReset (straps : BitVec 2) (cards : BitVec 8) (drives : BitVec 4)
  | hello (tag : Byte) (body : List Byte)
  | status (tag : Byte) (body : List Byte)
  | configure (tag : Byte) (body : List Byte)
  | portSet (tag : Byte) (body : List Byte)
  | admitClip (tag : Byte) (body : List Byte)
  | cancelClip (tag : Byte) (body : List Byte)
  | queryClip (tag : Byte) (body : List Byte)
  | peekResult (tag : Byte) (body : List Byte)
  | takeResult (tag : Byte) (body : List Byte)
  | readChecks (tag : Byte) (body : List Byte)
  | ejectCard (tag : Byte) (body : List Byte)
  | releaseDrive (tag : Byte) (body : List Byte)
  | restartPort (tag : Byte) (body : List Byte)
  | cardRead (tag : Byte) (body : List Byte)
  | driveRead (tag : Byte) (body : List Byte)
  | driveWrite (tag : Byte) (body : List Byte)
  | clearCounters (tag : Byte) (body : List Byte)
  | engineReset (tag : Byte) (body : List Byte)
  | engineLeavesResetting
  /-- The byte (or byte error) at which a frame is discarded. -/
  | frameDiscard (b : LineByte)
  | gapTimerExpiry
  | transmitterTakesFrame
  | endOfSending
  /-- CDET changes to the level given. -/
  | cardDetectChange (p : CardId) (present : Bool)
  | cardSettleTimerExpiry (p : CardId)
  | cardRemoval (p : CardId)
  | cardCommandAnswer (p : CardId) (a : Answer)
  | cardMediaError (p : CardId)
  | cardTimeout (p : CardId)
  /-- The second identification command answers with the media id. -/
  | cardIdentification (p : CardId) (id : MediaId)
  /-- The last command of the read answers with its data. -/
  | copyRead (p : CardId) (data : List Byte)
  | repairRead (p : CardId) (data : List Byte)
  | recheckRead (p : CardId) (data : List Byte)
  | cardReadCompletes (p : CardId) (data : List Byte)
  | grant
  | recheckReadTakenUp (p : CardId)
  | passThroughTakenUp (p : PortId)
  /-- DDET changes to the level given. -/
  | driveDetectChange (d : DriveId) (present : Bool)
  | driveSettleTimerExpiry (d : DriveId)
  | driveRemoval (d : DriveId)
  | driveCommandAnswer (d : DriveId) (a : Answer)
  | driveMediaError (d : DriveId)
  | driveTimeout (d : DriveId)
  /-- The second identification command answers with the media id. -/
  | driveIdentification (d : DriveId) (id : MediaId)
  | chunkWriteTakenUp (d : DriveId)
  | verifyReadTakenUp (d : DriveId)
  /-- The last sub-write answers with success. -/
  | chunkWrite (d : DriveId)
  /-- The last sub-read answers with its data. -/
  | verifyRead (d : DriveId) (data : List Byte)
  | driveReadCompletes (d : DriveId) (data : List Byte)
  | driveWriteCompletes (d : DriveId)
  | intervalTimerExpiry
  | terminalEntry (clip : Nat)
  | byteReceived (b : LineByte)
  deriving DecidableEq, Repr

end Sys2Proof
end

