-- ==== Sys2Proof/Decode.lean ====
section
/-! DEFINITION. The command that a word of the opcode table's bits spells. No row of spec/opcode_table.json gives bits
(every row's "fields" is empty and none has "fixed"), so no word spells a command. Requests are decoded from their frames
in Machine/Operands.lean. -/

namespace Sys2Proof

/-- The command a table word spells: none, since the table gives no row bits. -/
def decodeTableWord (_nbits _w : Nat) : Option Instr := none

end Sys2Proof
end

