-- ==== Sys2Proof/Machine/Crc.lean ====
section
/-! DEFINITION. The three cyclic redundancy checks: the chunk check (06 R134), the clip digest (06 R136) and the frame
check (08 R162). The register is shifted towards its most significant bit, and a polynomial is given without its top term. -/

namespace Sys2Proof.Machine

/-- One bit enters the register. -/
def crcBit {w : Nat} (poly reg : BitVec w) (bit : Bool) : BitVec w :=
  if reg.msb != bit then (reg <<< 1) ^^^ poly else reg <<< 1

/-- A byte enters least significant bit first ("input reflected", 06 R134). -/
def crcByteLow {w : Nat} (poly reg : BitVec w) (b : Byte) : BitVec w :=
  [0, 1, 2, 3, 4, 5, 6, 7].foldl (fun r i => crcBit poly r (b.getLsbD i)) reg

/-- A byte enters most significant bit first (06 R136, 08 R162). -/
def crcByteHigh {w : Nat} (poly reg : BitVec w) (b : Byte) : BitVec w :=
  [7, 6, 5, 4, 3, 2, 1, 0].foldl (fun r i => crcBit poly r (b.getLsbD i)) reg

/-- The bits of a register in reversed order ("output reflected"): bit i becomes bit w - 1 - i. -/
def crcReverse {w : Nat} (reg : BitVec w) : BitVec w :=
  (List.range w).foldl (fun r i => r ||| (BitVec.ofBool (reg.getLsbD i)).setWidth w <<< (w - 1 - i)) 0

/-- The initial value of the chunk check (06 R134). -/
def checkInit : Check := 0xFFFFFFFF

/-- The chunk check's register advanced over bytes in stream order (06 R134, R135). -/
def checkAdvance (reg : Check) (bytes : List Byte) : Check := bytes.foldl (crcByteLow 0x1EDC6F41) reg

/-- The chunk check read out of its register (06 R134). -/
def checkFinish (reg : Check) : Check := crcReverse reg ^^^ 0xFFFFFFFF

/-- The chunk check of a whole chunk (06 R134). -/
def chunkCheck (bytes : List Byte) : Check := checkFinish (checkAdvance checkInit bytes)

/-- The initial value of the running remainder, all ones (06 R136). -/
def remainderInit : Digest := 0xFFFFFFFFFFFFFFFF

/-- The running remainder advanced over bytes in stream order (06 R136, R137). -/
def remainderAdvance (reg : Digest) (bytes : List Byte) : Digest := bytes.foldl (crcByteHigh 0x42F0E1EBA9EA3693) reg

/-- The digest of a remainder: the final exclusive-or (06 R136, R139). -/
def remainderFinish (reg : Digest) : Digest := reg ^^^ 0xFFFFFFFFFFFFFFFF

/-- The digest of a whole stream (06 R136). -/
def streamDigest (bytes : List Byte) : Digest := remainderFinish (remainderAdvance remainderInit bytes)

/-- The check of a frame, over its length bytes and content (08 R162). -/
def frameCheck (bytes : List Byte) : BitVec 16 := bytes.foldl (crcByteHigh 0x1021) 0xFFFF

end Sys2Proof.Machine
end

