-- ==== Sys2Proof/Machine/State.lean ====
section
/-! DEFINITION. The state of the 840 as plain data, block by block as 00 (Block Overview) lists the blocks, with the
reasons a step can stop and the state after reset. -/

namespace Sys2Proof.Machine

/-! ### Names of the manual -/

/-- 08 R174, R175. -/
inductive EngineState where
  | running | resetting
  deriving DecidableEq, Repr

/-- 08 R161. -/
inductive LineRate where
  | mbit3 | mbit6 | mbit12
  deriving DecidableEq, Repr

/-- The eighteen request kinds (08 R177). -/
inductive RequestKind where
  | hello | status | configure | portSet | admitClip | cancelClip | queryClip | peekResult | takeResult | readChecks
  | ejectCard | releaseDrive | restartPort | cardRead | driveRead | driveWrite | clearCounters | engineReset
  deriving DecidableEq, Repr

/-- The status byte of a reply (08 R177): OK, the refusals, and the unsuccessful endings of pass-through requests. -/
inductive Status where
  | ok | resetting
  | tableFull | idInUse | badExtents | badDestinations | badCopies | cardNotReady | staleCard | sourceRange
  | driveNotOnline | staleDrive | lengthMismatch | targetRange | targetOverlap | targetBusy | checkStoreFull
  | noSuchClip | clipTerminal | notFirst | notYetRead | badValue | portBusy | badState | claimed | passThroughFull
  | badBody | tagInUse | linkBusy
  | mediaError | timeout | sourceRemoved | driveRemoved | portFaulted | aborted
  deriving DecidableEq, Repr

/-- 01 1.1. -/
inductive Policy where
  | none | readback | readbackRecheck
  deriving DecidableEq, Repr

/-- 01 1.3. -/
inductive ClipState where
  | queued | reading | rechecking | draining | closing | done | degraded | failed | cancelled
  deriving DecidableEq, Repr

/-- 01 1.1: the pending outcome of a CLOSING clip. -/
inductive PendingOutcome where
  | failed | cancelled
  deriving DecidableEq, Repr

/-- 01 R14. -/
inductive Cause where
  | cancelledByRequest | engineReset | sourceLost | sourceReadError | sourceUnstable | recheckMismatch | tooFewCopies
  deriving DecidableEq, Repr

/-- 01 1.1. -/
inductive RecheckState where
  | pending | passed | mismatch | notDone
  deriving DecidableEq, Repr

/-- 01 1.6. -/
inductive DestState where
  | active | copied | lost
  deriving DecidableEq, Repr

/-- 01 1.1. -/
inductive LossCause where
  | driveRemoved | driveFault | verifyFailed | noSource | repairOverflow
  deriving DecidableEq, Repr

/-- 02, presence states. -/
inductive CardPresence where
  | empty | settling | identifying | ready | ejected | faulted
  deriving DecidableEq, Repr

/-- 04, presence states. -/
inductive DrivePresence where
  | absent | settling | identifying | online | released | faulted
  deriving DecidableEq, Repr

/-- 02 R44. -/
inductive CardEvent where
  | ready | removed | faulted | idle
  deriving DecidableEq, Repr

/-- 04 R105. -/
inductive DriveEvent where
  | online | removed | faulted | unsupported
  deriving DecidableEq, Repr

/-- 03 3.1. -/
inductive SlotState where
  | free | filling | held
  deriving DecidableEq, Repr

/-- 03 3.1: the purpose of a grant and of its slot. -/
inductive Purpose where
  | copy | repair
  deriving DecidableEq, Repr

/-- 05 5.2: the alternation phase. -/
inductive Phase where
  | write | verify
  deriving DecidableEq, Repr

/-- 09 R181. -/
inductive Band where
  | zero | one | few | some | many | heavy
  deriving DecidableEq, Repr

/-- 07 7.1. -/
inductive PassKind where
  | cardRead | driveRead | driveWrite
  deriving DecidableEq, Repr

/-! ### Offload Table (01) -/

/-- A range of sectors: first sector and count (00). -/
structure Extent where
  first : Nat
  count : Nat
  deriving DecidableEq, Repr

/-- A destination record (01 1.1, R3). -/
structure Destination where
  drive : DriveId
  generation : Nat
  targets : List Extent
  state : DestState
  verified : Bool
  lossCause : Option LossCause
  chunksWritten : Nat
  chunksVerified : Nat
  repairsUsed : Nat
  deriving DecidableEq, Repr

/-- A clip record (01 1.1, R2). -/
structure Clip where
  id : Nat
  card : CardId
  generation : Nat
  extents : List Extent
  streamLength : Nat
  chunkCount : Nat
  policy : Policy
  required : Nat
  dests : List Destination
  state : ClipState
  pendingOutcome : Option PendingOutcome
  cause : Option Cause
  chunksRead : Nat
  remainder : Digest
  digest : Option Digest
  recheck : Option RecheckState
  sourceUnstable : Bool
  inFlight : Nat
  deriving DecidableEq, Repr

/-- The clip table, in order of admission, and the result list (01 R1, R28). -/
structure Table where
  clips : List Clip
  results : List Nat
  deriving DecidableEq, Repr

/-- The Check Store's entries of one clip, by chunk: empty or a recorded check (06 6.4). -/
structure CheckRow where
  clip : Nat
  entries : List (Option Check)
  deriving DecidableEq, Repr

/-- The Check Store (06 R140). -/
structure CheckStore where
  rows : List CheckRow
  reserved : Nat
  deriving DecidableEq, Repr

/-! ### Staging Pool and Source Arbiter (03) -/

/-- The number of a staging slot. -/
abbrev SlotId := Fin Config.slotCount

/-- The clip and chunk a slot was granted for (03 R63). -/
structure Owner where
  clip : Nat
  chunk : Nat
  deriving DecidableEq, Repr

/-- A staging slot (03 3.1). -/
structure Slot where
  state : SlotState
  owner : Option Owner
  purpose : Option Purpose
  refs : Nat
  data : List Byte
  deriving DecidableEq, Repr

/-- The Source Arbiter's state (03 3.2). The round-robin position is the port last granted a COPY slot. -/
structure Arbiter where
  priority : Vector Nat 8
  hold : Vector Bool 8
  reserveMark : Nat
  ceiling : Nat
  roundRobin : CardId
  inService : Vector (Option Purpose) 8
  deriving DecidableEq, Repr

/-! ### Ports (02, 04, 07) -/

/-- A pass-through record (07 7.1). -/
structure PassRecord where
  tag : Byte
  kind : PassKind
  generation : Nat
  first : Nat
  count : Nat
  data : List Byte
  deriving DecidableEq, Repr

/-- An entry of a repair list (02 R52). -/
structure RepairEntry where
  clip : Nat
  chunk : Nat
  drive : DriveId
  deriving DecidableEq, Repr

/-- An entry of a write queue (04 R94). -/
structure WriteEntry where
  slot : SlotId
  clip : Nat
  chunk : Nat
  deriving DecidableEq, Repr

/-- An entry of a verify backlog (05 R112). -/
structure BacklogEntry where
  clip : Nat
  chunk : Nat
  deriving DecidableEq, Repr

/-- A claim (04 R91). -/
structure Claim where
  clip : Nat
  first : Nat
  count : Nat
  deriving DecidableEq, Repr

/-- What a medium reports of itself: sector size in bytes and capacity in sectors (02 R39). -/
structure Geometry where
  sectorSize : Nat
  capacity : Nat
  deriving DecidableEq, Repr

/-- A card port's recheck state (05 R125). -/
structure RecheckPass where
  clip : Nat
  position : Nat
  fresh : Digest
  deriving DecidableEq, Repr

/-- The operation a card port has in flight (02, table of the port's state). -/
inductive CardTask where
  | identification (found : Option Geometry)
  | copyRead (clip chunk : Nat) (slot : SlotId)
  | repairRead (clip chunk : Nat) (drive : DriveId) (slot : SlotId)
  | recheckRead (clip chunk : Nat)
  | passThrough (r : PassRecord)
  deriving DecidableEq, Repr

/-- A card operation's progress: commands done, retries of the present command, bytes placed, the partial chunk check
and the working copy of the running remainder (02 R45, R50; 06 R135, R137). -/
structure CardOp where
  task : CardTask
  done : Nat
  retries : Nat
  filled : Nat
  check : Check
  remainder : Digest
  deriving DecidableEq, Repr

/-- The operation a drive port has in flight (04, table of the port's state). -/
inductive DriveTask where
  | identification (found : Option Geometry)
  | chunkWrite (entry : WriteEntry)
  | verifyRead (clip chunk : Nat)
  | passThrough (r : PassRecord)
  deriving DecidableEq, Repr

/-- A drive operation's progress (04 R90, 05 R113). -/
structure DriveOp where
  task : DriveTask
  done : Nat
  retries : Nat
  check : Check
  deriving DecidableEq, Repr

/-- A Card Port Controller (02). Priority and hold flag stand in the arbiter. -/
structure CardPort where
  presence : CardPresence
  detect : Bool
  settleTimer : Bool
  generation : Nat
  capacity : Option Nat
  mediaId : Option MediaId
  clipQueue : List Nat
  repairs : List RepairEntry
  passList : List PassRecord
  scratch : List Byte
  recheck : Option RecheckPass
  op : Option CardOp
  crel : Bool
  deriving DecidableEq, Repr

/-- A Drive Port Controller (04). -/
structure DrivePort where
  presence : DrivePresence
  detect : Bool
  settleTimer : Bool
  generation : Nat
  capacity : Option Nat
  mediaId : Option MediaId
  claims : List Claim
  writeQueue : List WriteEntry
  backlog : List BacklogEntry
  latch : Bool
  lowMark : Nat
  highMark : Nat
  writeRun : Nat
  verifyRun : Nat
  phase : Phase
  runCount : Nat
  passList : List PassRecord
  op : Option DriveOp
  drel : Bool
  deriving DecidableEq, Repr

/-! ### Summary Unit (09) -/

/-- A cumulative counter with its saturated flag (09 R182). -/
structure Counter where
  value : Nat
  saturated : Bool
  deriving DecidableEq, Repr

/-- The Summary Unit. `timer` is the length the running interval was started at; `interval` is the setting. The 29 counts
stand in the order of the STATUS reply (08 R177). -/
structure Summary where
  timer : Nat
  interval : Nat
  sequence : Nat
  counts : Vector Nat Config.counterCount
  lowestFree : Nat
  highestQueue : Vector Nat 4
  cumulative : Vector Counter Config.counterCount
  deriving DecidableEq, Repr

/-! ### Replies and notices (08) -/

/-- A result record (01 R29). -/
structure ResultRecord where
  clip : Nat
  outcome : ClipState
  cause : Option Cause
  digest : Option Digest
  recheck : Option RecheckState
  sourceUnstable : Bool
  dests : List Destination
  deriving DecidableEq, Repr

/-- A card port's part of STATUS (08 R171). -/
structure CardStatus where
  presence : CardPresence
  generation : Nat
  capacity : Option Nat
  mediaId : Option MediaId
  clipQueue : Nat
  repairs : Nat
  passList : Nat
  priority : Nat
  hold : Bool
  deriving DecidableEq, Repr

/-- A drive port's part of STATUS (08 R171). -/
structure DriveStatus where
  presence : DrivePresence
  generation : Nat
  capacity : Option Nat
  mediaId : Option MediaId
  writeQueue : Nat
  backlog : Nat
  latch : Bool
  claims : Nat
  passList : Nat
  lowMark : Nat
  highMark : Nat
  writeRun : Nat
  verifyRun : Nat
  deriving DecidableEq, Repr

/-- What STATUS carries (08 R171). -/
structure StatusReport where
  engine : EngineState
  cards : List CardStatus
  drives : List DriveStatus
  free : Nat
  filling : Nat
  held : Nat
  heldRepair : Nat
  inService : List (Option Purpose)
  reserveMark : Nat
  ceiling : Nat
  records : Nat
  results : Nat
  reserved : Nat
  room : Nat
  outstanding : Nat
  notices : Nat
  lost : Nat
  interval : Nat
  counters : List Counter
  deriving DecidableEq, Repr

/-- The body of a reply (08 R177, "Fields after status OK" and the extras of the refusals). -/
inductive ReplyBody where
  /-- A refusal or ending with its status alone. -/
  | refused (status : Status)
  /-- OK with no fields. -/
  | done
  | hello (rate : LineRate)
  | status (report : StatusReport)
  | admitted (clip chunkCount : Nat)
  /-- A refusal of checks 10 to 15, with the destination's position and drive port (01 R5). -/
  | admitRefused (status : Status) (position : Nat) (drive : DriveId)
  | cancelled (clip : Nat) (state : ClipState)
  | query (clip : Clip)
  /-- PEEK RESULT of an empty list: a count of 0. -/
  | noResult
  | peeked (count : Nat) (record : ResultRecord)
  | taken (record : ResultRecord)
  | checks (clip first count chunksRead chunkCount : Nat) (values : List Check)
  | notYetRead (chunksRead : Nat)
  /-- CONFIGURE's BAD_VALUE with the pair's position. -/
  | pairAtFault (position : Nat)
  | port (p : PortId) (generation : Nat)
  | sectors (p : PortId) (generation first count : Nat) (data : List Byte)
  | written (p : PortId) (first count : Nat)
  | mediaError (p : PortId) (first count : Nat)
  deriving DecidableEq, Repr

/-- A reply in the reply store. A link refusal is a reply that holds no place in the outstanding set (08 R165). -/
structure Reply where
  kind : RequestKind
  tag : Byte
  body : ReplyBody
  linkRefusal : Bool
  deriving DecidableEq, Repr

/-- A card port's part of a SUMMARY (09 R180). -/
structure CardFigures where
  chunksRead : Nat
  readRetries : Band
  deriving DecidableEq, Repr

/-- A drive port's part of a SUMMARY (09 R180). -/
structure DriveFigures where
  chunksWritten : Nat
  writeRetries : Band
  mismatches : Band
  peakQueue : Nat
  deriving DecidableEq, Repr

/-- A SUMMARY notice's fields (09 R180). -/
structure SummaryFigures where
  sequence : Nat
  length : Nat
  cards : List CardFigures
  drives : List DriveFigures
  free : Nat
  lowestFree : Nat
  framesDiscarded : Nat
  deriving DecidableEq, Repr

/-- A notice (08 R169, R177). -/
inductive Notice where
  | card (p : CardId) (generation : Nat) (event : CardEvent)
  | drive (d : DriveId) (generation : Nat) (event : DriveEvent)
  | clipEnded (clip : Nat) (outcome : ClipState)
  | summary (figures : SummaryFigures)
  | gap (lost : Nat)
  deriving DecidableEq, Repr

/-! ### Link Interface (08) -/

/-- The receiver's five states with the bytes each has taken (08 R162): LENGTH with its first byte once taken; CONTENT with
the number of bytes expected and those taken; CHECK with the whole content and the first check byte once taken. -/
inductive Receiver where
  | hunt
  | sync
  | length (first : Option Byte)
  | content (expected : Nat) (taken : List Byte)
  | check (content : List Byte) (first : Option Byte)
  deriving DecidableEq, Repr

/-- The transmitter (08 R168). SENDING holds the frame's bytes and the tag its end frees, which is none for a notice and
for a link refusal (R165, R166). -/
inductive Transmitter where
  | idle
  | sending (frame : List Byte) (frees : Option Byte)
  deriving DecidableEq, Repr

/-- The Link Interface (08). `resetTag` is the tag of the ENGINE RESET whose OK is still to be formed (R174, R175). -/
structure Link where
  lineRate : LineRate
  receiver : Receiver
  gapTimer : Bool
  outstanding : List Byte
  replies : List Reply
  notices : List Notice
  lost : Nat
  transmitter : Transmitter
  engine : EngineState
  resetTag : Option Byte
  deriving DecidableEq, Repr

/-! ### The machine -/

/-- Everything the spec gives the block, and the model's two own fields: the queue of commands waiting (log 1) and the
number of free values used (log 6). -/
structure State where
  pending : List Instr
  link : Link
  table : Table
  store : CheckStore
  slots : Vector Slot Config.slotCount
  arbiter : Arbiter
  cards : Vector CardPort 8
  drives : Vector DrivePort 4
  summary : Summary
  freeValues : Nat
  deriving DecidableEq, Repr

/-- Nothing stops this block: media errors, time-outs and removals change its state (log 2), so no step ends in a fault. -/
inductive Fault where
  deriving DecidableEq, Repr

/-- The only refusal: an arm of the dispatch that has no meaning yet. No meaning raises it. Safe. -/
inductive Refusal where
  /-- Raised by an arm of the dispatch alone, with the row's mnemonic. Safe: the machine stops. -/
  | notModelled (mnemonic : String)
  deriving DecidableEq, Repr

/-! ### Values after power-on -/

/-- 03 R84. -/
def Slot.reset : Slot := { state := .free, owner := none, purpose := none, refs := 0, data := [] }

/-- 02 R59; the scratch buffer's content is the model's choice (log 14), the detect line's level too (log 13). -/
def CardPort.reset : CardPort :=
  { presence := .empty, detect := false, settleTimer := false, generation := 0, capacity := none, mediaId := none,
    clipQueue := [], repairs := [], passList := [], scratch := [], recheck := none, op := none, crel := false }

/-- 04 R109; the detect line's level is the model's choice (log 13). -/
def DrivePort.reset : DrivePort :=
  { presence := .absent, detect := false, settleTimer := false, generation := 0, capacity := none, mediaId := none,
    claims := [], writeQueue := [], backlog := [], latch := false, lowMark := 24, highMark := 64, writeRun := 16,
    verifyRun := 8, phase := .write, runCount := 0, passList := [], op := none, drel := false }

/-- 03 R84, table of 3.2. -/
def Arbiter.reset : Arbiter :=
  { priority := Vector.replicate 8 3, hold := Vector.replicate 8 false, reserveMark := 48, ceiling := 1,
    roundRobin := 7, inService := Vector.replicate 8 none }

/-- 09 R184. -/
def Summary.reset : Summary :=
  { timer := 1000, interval := 1000, sequence := 0, counts := Vector.replicate Config.counterCount 0, lowestFree := 512,
    highestQueue := Vector.replicate 4 0,
    cumulative := Vector.replicate Config.counterCount { value := 0, saturated := false } }

/-- 08 R176; the line rate is that of the straps, here 00 (log 13). -/
def Link.reset : Link :=
  { lineRate := .mbit3, receiver := .hunt, gapTimer := false, outstanding := [], replies := [], notices := [], lost := 0,
    transmitter := .idle, engine := .running, resetTag := none }

/-- The machine right after the power-on reset, with straps 00 and no medium in any port (01 R34, 02 R59, 03 R84, 04 R109,
05 R131, 06 R145, 07 R159, 08 R176, 09 R184; log 13). -/
def State.reset : State :=
  { pending := [], link := Link.reset, table := { clips := [], results := [] }, store := { rows := [], reserved := 0 },
    slots := Vector.replicate Config.slotCount Slot.reset, arbiter := Arbiter.reset,
    cards := Vector.replicate 8 CardPort.reset, drives := Vector.replicate 4 DrivePort.reset, summary := Summary.reset,
    freeValues := 0 }

end Sys2Proof.Machine
end

