-- ==== Sys2Proof/Machine/Flags.lean ====
section
/-! DEFINITION. Flags, grades and derived counts: the backpressure latch (04 R96), counters and their saturated flags
(09 R178, R182), bands (09 R181), the pool's counts (03 R62) and the alternation's decision (05 R117). -/

namespace Sys2Proof.Machine

/-- The latch after a change of the write queue's length (04 R96). -/
def latchAfter (latch : Bool) (low high length : Nat) : Bool :=
  if latch then decide (low < length) else decide (high ≤ length)

/-- An increment of an interval count, which stays at its maximum (09 R178). -/
def countUp (n : Nat) : Nat := if n < Config.counterMax then n + 1 else n

/-- An increment of a cumulative counter: at the maximum it stays there and sets its flag (09 R182). -/
def Counter.up (c : Counter) : Counter :=
  if c.value < Config.counterMax then { c with value := c.value + 1 } else { c with saturated := true }

/-- A cleared counter (09 R183). -/
def Counter.zero : Counter := { value := 0, saturated := false }

/-- The band of an interval count (09 R181). -/
def bandOf (n : Nat) : Band :=
  if n = 0 then .zero else if n = 1 then .one else if n ≤ 5 then .few else if n ≤ 10 then .some
  else if n ≤ 100 then .many else .heavy

/-- The place of a card port's chunks read among the 29 counters (08 R177). -/
def chunksReadCounter (p : CardId) : Fin Config.counterCount := ⟨2 * p.val, by have := p.isLt; simp only [Config.counterCount]; omega⟩

/-- The place of a card port's read retries. -/
def readRetriesCounter (p : CardId) : Fin Config.counterCount :=
  ⟨2 * p.val + 1, by have := p.isLt; simp only [Config.counterCount]; omega⟩

/-- The place of a drive port's chunks written. -/
def chunksWrittenCounter (d : DriveId) : Fin Config.counterCount :=
  ⟨16 + 3 * d.val, by have := d.isLt; simp only [Config.counterCount]; omega⟩

/-- The place of a drive port's write retries. -/
def writeRetriesCounter (d : DriveId) : Fin Config.counterCount :=
  ⟨17 + 3 * d.val, by have := d.isLt; simp only [Config.counterCount]; omega⟩

/-- The place of a drive port's verify mismatches. -/
def mismatchesCounter (d : DriveId) : Fin Config.counterCount :=
  ⟨18 + 3 * d.val, by have := d.isLt; simp only [Config.counterCount]; omega⟩

/-- The place of the frames discarded. -/
def framesCounter : Fin Config.counterCount := ⟨28, by decide⟩

/-- The saturated flags as one field, counter i in bit i (08 R177). -/
def saturatedField (counters : List Counter) : Nat :=
  (counters.zipIdx.map (fun (c, i) => if c.saturated then 2 ^ i else 0)).sum

/-- Slots in a given state (03 R62). -/
def slotsIn (slots : Vector Slot Config.slotCount) (st : SlotState) : Nat :=
  slots.toList.countP (fun sl => sl.state = st)

/-- HELD slots of purpose REPAIR (03 R62). -/
def heldRepairCount (slots : Vector Slot Config.slotCount) : Nat :=
  slots.toList.countP (fun sl => sl.state = .held ∧ sl.purpose = some .repair)

/-- The clip is QUEUED, READING, RECHECKING or DRAINING (01 R14). -/
def ClipState.isOpen : ClipState → Bool
  | .queued | .reading | .rechecking | .draining => true
  | .closing | .done | .degraded | .failed | .cancelled => false

/-- The clip is terminal (00, Terms). -/
def ClipState.isTerminal : ClipState → Bool
  | .done | .degraded | .failed | .cancelled => true
  | .queued | .reading | .rechecking | .draining | .closing => false

/-- The clip holds its card port's one place for reading (01 R9). -/
def ClipState.isReading : ClipState → Bool
  | .reading | .rechecking => true
  | .queued | .draining | .closing | .done | .degraded | .failed | .cancelled => false

/-- The state a pending outcome becomes (01 R2). -/
def PendingOutcome.state : PendingOutcome → ClipState
  | .failed => .failed
  | .cancelled => .cancelled

/-- Destinations that are not LOST (01 R27). -/
def Clip.standing (c : Clip) : Nat := c.dests.countP (fun x => x.state ≠ .lost)

/-- Destinations that are ACTIVE (01 R11). -/
def Clip.activeCount (c : Clip) : Nat := c.dests.countP (fun x => x.state = .active)

/-- The clip's destination on a drive port, if it has one. -/
def Clip.destOn (c : Clip) (d : DriveId) : Option Destination := c.dests.find? (fun x => x.drive = d)

/-- The clip has an ACTIVE destination on a drive port. -/
def Clip.activeOn (c : Clip) (d : DriveId) : Bool := c.dests.any (fun x => x.drive = d && x.state = .active)

/-- The clip is due to become terminal: CLOSING with nothing in flight (01 R17), or DRAINING with every destination
decided and nothing in flight (01 R13). -/
def Clip.due (c : Clip) : Bool :=
  c.inFlight = 0 && (c.state = .closing || (c.state = .draining && c.activeCount = 0))

/-- The outcome a clip takes when it becomes terminal: its pending outcome (01 R17), else DONE when every destination is
COPIED and DEGRADED when not (01 R13). -/
def Clip.outcome (c : Clip) : ClipState :=
  match c.pendingOutcome with
  | some o => o.state
  | none => if c.dests.all (fun x => x.state = .copied) then .done else .degraded

/-- A destination has every chunk written and, where the policy asks it, verified (01 R25). -/
def Destination.complete (x : Destination) (policy : Policy) (chunkCount : Nat) : Bool :=
  x.chunksWritten = chunkCount && (policy = .none || x.chunksVerified = chunkCount)

/-- What a drive port takes up next at a free point (05 R117). -/
inductive Choice where
  | write | verify
  deriving DecidableEq, Repr

/-- The other phase. -/
def Phase.flip : Phase → Phase
  | .write => .verify
  | .verify => .write

/-- The run length of a phase (05 R117, step 1). -/
def DrivePort.runLength (x : DrivePort) : Phase → Nat
  | .write => x.writeRun
  | .verify => x.verifyRun

/-- Work is available for a phase (05 R117): a write while the backlog has room, a verify while it is not empty. -/
def DrivePort.hasWork (x : DrivePort) : Phase → Bool
  | .write => !x.writeQueue.isEmpty && decide (x.backlog.length < Config.backlogLimit)
  | .verify => !x.backlog.isEmpty

/-- Step 1 of the decision: a completed run flips the phase (05 R117). -/
def DrivePort.endRun (x : DrivePort) : DrivePort :=
  if x.runLength x.phase ≤ x.runCount then { x with phase := x.phase.flip, runCount := 0 } else x

/-- The port is at a free point at which no work of any kind is offered (04 R98, 05 R117). -/
def DrivePort.idles (x : DrivePort) : Bool :=
  x.presence = .online && x.op.isNone && x.passList.isEmpty && !x.hasWork .write && !x.hasWork .verify

/-- A drive port that an event has brought to a free point without work, by ending its operation or by taking away the work it had
not taken up (04 R99): its decision is steps 1 and 4 of R117, so a completed run flips the phase (log 17). -/
def DrivePort.settleRuns (before after : DrivePort) : DrivePort :=
  if after.idles && !before.idles then after.endRun else after

/-- The operation a phase names. -/
def Phase.choice : Phase → Choice
  | .write => .write
  | .verify => .verify

/-- Steps 1 to 4 of the decision: the port with its phase and run count after it, and what it takes up (05 R117, R118). -/
def DrivePort.alternate (x : DrivePort) : DrivePort × Option Choice :=
  let y := x.endRun
  if y.hasWork y.phase then ({ y with runCount := y.runCount + 1 }, some y.phase.choice)
  else if y.hasWork y.phase.flip then ({ y with phase := y.phase.flip, runCount := 1 }, some y.phase.flip.choice)
  else (y, none)

end Sys2Proof.Machine
end

