-- ==== Sys2Proof/Machine/Wire.lean ====
section
/-! DEFINITION. The layouts and codes of the control line (08 R177): little-endian fields, frames, and the bodies of replies
and notices. -/

namespace Sys2Proof.Machine

/-! ### Fields and frames -/

/-- A number as n bytes, least significant first (00, Numbers and time; 08 8.2). -/
def leBytes : Nat → Nat → List Byte
  | 0, _ => []
  | n + 1, v => BitVec.ofNat 8 v :: leBytes n (v / 256)

/-- The number that bytes stand for, least significant first. -/
def leValue : List Byte → Nat
  | [] => 0
  | b :: rest => b.toNat + 256 * leValue rest

/-- The two length bytes of a frame with the given content (08 8.2). -/
def lengthBytes (content : List Byte) : List Byte := leBytes 2 content.length

/-- The check of a frame with the given content, over its length bytes and content (08 R162). -/
def contentCheck (content : List Byte) : BitVec 16 := frameCheck (lengthBytes content ++ content)

/-- The bytes of a whole frame: sync, length, content, check low byte first (08 8.2, R177). -/
def frameBytes (content : List Byte) : List Byte :=
  [0xA5, 0x3C] ++ lengthBytes content ++ content ++ leBytes 2 (contentCheck content).toNat

/-- A body under construction: a byte the layout gives a value, or none where it gives the field no value. -/
abbrev Field := List (Option Byte)

/-- A numeric field of n bytes. -/
def num (n v : Nat) : Field := (leBytes n v).map some

/-- A run of given bytes. -/
def raw (bytes : List Byte) : Field := bytes.map some

/-- A field of n bytes to which the layout gives no value (log 6). -/
def unstated (n : Nat) : Field := List.replicate n none

/-- The bytes of a body, its unstated bytes filled with the free values from number k on. -/
def fillBody : Nat → Field → List Byte
  | _, [] => []
  | k, some b :: rest => b :: fillBody (k + 1) rest
  | k, none :: rest => Config.freeByte k :: fillBody (k + 1) rest

/-! ### Codes (08 R177) -/

def RequestKind.code : RequestKind → Nat
  | .hello => 0x01 | .status => 0x02 | .configure => 0x03 | .portSet => 0x04 | .admitClip => 0x05 | .cancelClip => 0x06
  | .queryClip => 0x07 | .peekResult => 0x08 | .takeResult => 0x09 | .readChecks => 0x0A | .ejectCard => 0x0B
  | .releaseDrive => 0x0C | .restartPort => 0x0D | .cardRead => 0x0E | .driveRead => 0x0F | .driveWrite => 0x10
  | .clearCounters => 0x11 | .engineReset => 0x12

/-- All request kinds, in the order of their codes. -/
def RequestKind.all : List RequestKind :=
  [.hello, .status, .configure, .portSet, .admitClip, .cancelClip, .queryClip, .peekResult, .takeResult, .readChecks,
   .ejectCard, .releaseDrive, .restartPort, .cardRead, .driveRead, .driveWrite, .clearCounters, .engineReset]

/-- The request kind a kind byte names, if it names one (08 R165). -/
def RequestKind.ofByte (b : Byte) : Option RequestKind := RequestKind.all.find? (fun k => k.code = b.toNat)

def Status.code : Status → Nat
  | .ok => 0x00 | .resetting => 0x01 | .tableFull => 0x02 | .idInUse => 0x03 | .badExtents => 0x04
  | .badDestinations => 0x05 | .badCopies => 0x06 | .cardNotReady => 0x07 | .staleCard => 0x08 | .sourceRange => 0x09
  | .driveNotOnline => 0x0A | .staleDrive => 0x0B | .lengthMismatch => 0x0C | .targetRange => 0x0D
  | .targetOverlap => 0x0E | .targetBusy => 0x0F | .checkStoreFull => 0x10 | .noSuchClip => 0x11 | .clipTerminal => 0x12
  | .notFirst => 0x13 | .notYetRead => 0x14 | .badValue => 0x15 | .portBusy => 0x16 | .badState => 0x17 | .claimed => 0x18
  | .passThroughFull => 0x19 | .badBody => 0x1A | .tagInUse => 0x1B | .linkBusy => 0x1C | .mediaError => 0x20
  | .timeout => 0x21 | .sourceRemoved => 0x22 | .driveRemoved => 0x23 | .portFaulted => 0x24 | .aborted => 0x25

/-- The port byte. -/
def portCode : PortId → Nat
  | .card p => p.val
  | .drive d => 0x10 + d.val

def EngineState.code : EngineState → Nat
  | .running => 0x00 | .resetting => 0x01

def CardPresence.code : CardPresence → Nat
  | .empty => 0x00 | .settling => 0x01 | .identifying => 0x02 | .ready => 0x03 | .ejected => 0x04 | .faulted => 0x05

def DrivePresence.code : DrivePresence → Nat
  | .absent => 0x00 | .settling => 0x01 | .identifying => 0x02 | .online => 0x03 | .released => 0x04 | .faulted => 0x05

def ClipState.code : ClipState → Nat
  | .queued => 0x00 | .reading => 0x01 | .rechecking => 0x02 | .draining => 0x03 | .closing => 0x04 | .done => 0x05
  | .degraded => 0x06 | .failed => 0x07 | .cancelled => 0x08

def pendingCode : Option PendingOutcome → Nat
  | none => 0xFF
  | some o => o.state.code

def Policy.code : Policy → Nat
  | .none => 0x00 | .readback => 0x01 | .readbackRecheck => 0x02

def causeCode : Option Cause → Nat
  | none => 0x00
  | some .cancelledByRequest => 0x01 | some .engineReset => 0x02 | some .sourceLost => 0x03
  | some .sourceReadError => 0x04 | some .sourceUnstable => 0x05 | some .recheckMismatch => 0x06
  | some .tooFewCopies => 0x07

def DestState.code : DestState → Nat
  | .active => 0x00 | .copied => 0x01 | .lost => 0x02

def lossCode : Option LossCause → Nat
  | none => 0x00
  | some .driveRemoved => 0x01 | some .driveFault => 0x02 | some .verifyFailed => 0x03 | some .noSource => 0x04
  | some .repairOverflow => 0x05

def recheckCode : Option RecheckState → Nat
  | none => 0x00
  | some .pending => 0x01 | some .passed => 0x02 | some .mismatch => 0x03 | some .notDone => 0x04

def purposeCode : Option Purpose → Nat
  | none => 0x00 | some .copy => 0x01 | some .repair => 0x02

def Band.code : Band → Nat
  | .zero => 0x00 | .one => 0x01 | .few => 0x02 | .some => 0x03 | .many => 0x04 | .heavy => 0x05

def CardEvent.code : CardEvent → Nat
  | .ready => 0x01 | .removed => 0x02 | .faulted => 0x03 | .idle => 0x04

def DriveEvent.code : DriveEvent → Nat
  | .online => 0x01 | .removed => 0x02 | .faulted => 0x03 | .unsupported => 0x04

/-- The line rate in Mbit/s (08 R161). -/
def LineRate.mbits : LineRate → Nat
  | .mbit3 => 3 | .mbit6 => 6 | .mbit12 => 12

/-- A flag's byte: 00h clear, 01h set. The codes of verified (R177), hold and identity present are the manual's; for latch, digest
present and source unstable it gives none, and 00h and 01h are the model's choice (log 22). -/
def flagCode (b : Bool) : Nat := if b then 1 else 0

/-! ### Bodies of replies (08 R177) -/

def Destination.field (x : Destination) : Field :=
  num 1 (portCode (.drive x.drive)) ++ num 2 x.generation ++ num 1 x.state.code ++ num 1 (flagCode x.verified)
    ++ num 1 (lossCode x.lossCause) ++ num 4 x.chunksWritten ++ num 4 x.chunksVerified ++ num 1 x.repairsUsed

/-- "digest present 1; digest 8". -/
def digestField : Option Digest → Field
  | some v => num 1 1 ++ num 8 v.toNat
  | none => num 1 0 ++ unstated 8

def destsField (dests : List Destination) : Field := num 1 dests.length ++ dests.flatMap Destination.field

def ResultRecord.field (r : ResultRecord) : Field :=
  num 2 r.clip ++ num 1 r.outcome.code ++ num 1 (causeCode r.cause) ++ digestField r.digest ++ num 1 (recheckCode r.recheck)
    ++ num 1 (flagCode r.sourceUnstable) ++ destsField r.dests

/-- The fields of QUERY CLIP after the status (01 R31): the extents and the running remainder are not returned. -/
def Clip.field (c : Clip) : Field :=
  num 2 c.id ++ num 1 c.state.code ++ num 1 (pendingCode c.pendingOutcome) ++ num 1 (causeCode c.cause)
    ++ num 1 (portCode (.card c.card)) ++ num 2 c.generation ++ num 1 c.policy.code ++ num 1 c.required
    ++ num 8 c.streamLength ++ num 4 c.chunkCount ++ num 4 c.chunksRead ++ num 1 c.inFlight
    ++ num 1 (recheckCode c.recheck) ++ num 1 (flagCode c.sourceUnstable) ++ digestField c.digest ++ destsField c.dests

/-- "capacity 8, media id 16" (08 R177). R177 gives the 16 bytes of a media id no order: that they are sent in the order in which the
medium gave them is the model's choice (log 23). -/
def identityField : Option Nat → Option MediaId → Field
  | some capacity, some id => num 8 capacity ++ raw id.toList
  | _, _ => unstated 24

/-- Whether an identity is present. -/
def identityPresent : Option Nat → Option MediaId → Bool
  | some _, some _ => true
  | _, _ => false

/-- 33 bytes; the identity byte holds identity present in bit 0 and the hold flag in bit 4. -/
def CardStatus.field (x : CardStatus) : Field :=
  num 1 x.presence.code ++ num 2 x.generation
    ++ num 1 (flagCode (identityPresent x.capacity x.mediaId) + 16 * flagCode x.hold)
    ++ identityField x.capacity x.mediaId ++ num 2 x.clipQueue ++ num 1 x.repairs ++ num 1 x.passList ++ num 1 x.priority

/-- 39 bytes. -/
def DriveStatus.field (x : DriveStatus) : Field :=
  num 1 x.presence.code ++ num 2 x.generation ++ num 1 (flagCode (identityPresent x.capacity x.mediaId))
    ++ identityField x.capacity x.mediaId ++ num 1 x.writeQueue ++ num 2 x.backlog ++ num 1 (flagCode x.latch)
    ++ num 2 x.claims ++ num 1 x.passList ++ num 1 x.lowMark ++ num 1 x.highMark ++ num 1 x.writeRun ++ num 1 x.verifyRun

def StatusReport.field (r : StatusReport) : Field :=
  num 1 r.engine.code ++ r.cards.flatMap CardStatus.field ++ r.drives.flatMap DriveStatus.field
    ++ num 2 r.free ++ num 1 r.filling ++ num 2 r.held ++ num 2 r.heldRepair
    ++ r.inService.flatMap (fun x => num 1 (purposeCode x)) ++ num 1 r.reserveMark ++ num 1 r.ceiling
    ++ num 2 r.records ++ num 2 r.results ++ num 4 r.reserved ++ num 4 r.room
    ++ num 1 r.outstanding ++ num 1 r.notices ++ num 2 r.lost ++ num 2 r.interval
    ++ r.counters.flatMap (fun c => num 4 c.value) ++ num 4 (saturatedField r.counters)

/-- The status of a reply (08 R177). -/
def ReplyBody.statusOf : ReplyBody → Status
  | .refused st => st
  | .done => .ok
  | .hello _ => .ok
  | .status _ => .ok
  | .admitted _ _ => .ok
  | .admitRefused st _ _ => st
  | .cancelled _ _ => .ok
  | .query _ => .ok
  | .noResult => .ok
  | .peeked _ _ => .ok
  | .taken _ => .ok
  | .checks _ _ _ _ _ _ => .ok
  | .notYetRead _ => .notYetRead
  | .pairAtFault _ => .badValue
  | .port _ _ => .ok
  | .sectors _ _ _ _ _ => .ok
  | .written _ _ _ => .ok
  | .mediaError _ _ _ => .mediaError

/-- The fields after the status byte (08 R177). -/
def ReplyBody.fields : ReplyBody → Field
  | .refused _ => []
  | .done => []
  | .hello rate =>
    num 2 0x5E21 ++ num 2 0x0840 ++ num 1 1 ++ num 1 rate.mbits ++ num 1 8 ++ num 1 4 ++ num 2 Config.slotCount
      ++ num 2 Config.tableSize ++ num 4 Config.storeSize ++ num 1 Config.tagLimit ++ num 1 Config.noticeQueueSize
      ++ num 2 Config.maxLength
  | .status report => report.field
  | .admitted clip chunkCount => num 2 clip ++ num 4 chunkCount
  | .admitRefused _ position drive => num 1 position ++ num 1 (portCode (.drive drive))
  | .cancelled clip state => num 2 clip ++ num 1 state.code
  | .query clip => clip.field
  | .noResult => num 2 0
  | .peeked count record => num 2 count ++ record.field
  | .taken record => record.field
  | .checks clip first count chunksRead chunkCount values =>
    num 2 clip ++ num 4 first ++ num 2 count ++ num 4 chunksRead ++ num 4 chunkCount
      ++ values.flatMap (fun v => num 4 v.toNat)
  | .notYetRead chunksRead => num 4 chunksRead
  | .pairAtFault position => num 1 position
  | .port p generation => num 1 (portCode p) ++ num 2 generation
  | .sectors p generation first count data =>
    num 1 (portCode p) ++ num 2 generation ++ num 8 first ++ num 1 count ++ raw data
  | .written p first count => num 1 (portCode p) ++ num 8 first ++ num 1 count
  | .mediaError p first count => num 1 (portCode p) ++ num 8 first ++ num 1 count

/-- A reply's content: its reply kind (the request kind plus 80h), its tag, and its body, which begins with the status. -/
def Reply.content (r : Reply) : Field :=
  num 1 (0x80 + r.kind.code) ++ raw [r.tag] ++ num 1 r.body.statusOf.code ++ r.body.fields

/-! ### Bodies of notices (08 R177) -/

def CardFigures.field (x : CardFigures) : Field := num 4 x.chunksRead ++ num 1 x.readRetries.code

def DriveFigures.field (x : DriveFigures) : Field :=
  num 4 x.chunksWritten ++ num 1 x.writeRetries.code ++ num 1 x.mismatches.code ++ num 1 x.peakQueue

def SummaryFigures.field (x : SummaryFigures) : Field :=
  num 1 x.sequence ++ num 2 x.length ++ x.cards.flatMap CardFigures.field ++ x.drives.flatMap DriveFigures.field
    ++ num 2 x.free ++ num 2 x.lowestFree ++ num 4 x.framesDiscarded

/-- A notice's content: its kind, tag 0, and its body. -/
def Notice.content : Notice → Field
  | .card p generation event => num 1 0xC1 ++ num 1 0 ++ num 1 (portCode (.card p)) ++ num 2 generation ++ num 1 event.code
  | .drive d generation event => num 1 0xC2 ++ num 1 0 ++ num 1 (portCode (.drive d)) ++ num 2 generation ++ num 1 event.code
  | .clipEnded clip outcome => num 1 0xC3 ++ num 1 0 ++ num 2 clip ++ num 1 outcome.code
  | .summary figures => num 1 0xC4 ++ num 1 0 ++ figures.field
  | .gap lost => num 1 0xC5 ++ num 1 0 ++ num 2 lost

end Sys2Proof.Machine
end

