-- ==== Sys2Proof/Machine/Operands.lean ====
section
/-! DEFINITION. The operands of requests: how a body is decoded against the layout of its kind (08 R167, R177). A body that
is too short or too long, a port byte that names no port of the kind, or an enumerated field without a code gives none. -/

namespace Sys2Proof.Machine

/-- A numeric field of n bytes and what follows it. -/
def takeNum (n : Nat) (body : List Byte) : Option (Nat × List Byte) :=
  if n ≤ body.length then some (leValue (body.take n), body.drop n) else none

/-- The card port a port byte names. -/
def cardOfCode (v : Nat) : Option CardId := if h : v < 8 then some ⟨v, h⟩ else none

/-- The drive port a port byte names. -/
def driveOfCode (v : Nat) : Option DriveId := if h : 0x10 ≤ v ∧ v < 0x14 then some ⟨v - 0x10, by omega⟩ else none

/-- The port of either kind a port byte names. -/
def portOfCode (v : Nat) : Option PortId :=
  match cardOfCode v with
  | some p => some (.card p)
  | none => (driveOfCode v).map .drive

def policyOfCode : Nat → Option Policy
  | 0 => some .none
  | 1 => some .readback
  | 2 => some .readbackRecheck
  | _ => none

def flagOfCode : Nat → Option Bool
  | 0 => some false
  | 1 => some true
  | _ => none

/-- The value of a body that is decoded to its end. -/
def wholeBody {α : Type} : Option (α × List Byte) → Option α
  | some (v, []) => some v
  | _ => none

/-- An empty body. -/
def decodeEmpty (body : List Byte) : Option Unit := if body.isEmpty then some () else none

/-- Clip id 2. -/
def decodeClipId (body : List Byte) : Option Nat := wholeBody (takeNum 2 body)

/-- n extents, each a first sector 8 and a count 8. -/
def takeExtents : Nat → List Byte → Option (List Extent × List Byte)
  | 0, body => some ([], body)
  | n + 1, body => do
    let (first, body) ← takeNum 8 body
    let (count, body) ← takeNum 8 body
    let (rest, body) ← takeExtents n body
    return ({ first := first, count := count } :: rest, body)

/-- A destination as ADMIT CLIP gives it. -/
structure DestRequest where
  drive : DriveId
  generation : Nat
  targets : List Extent
  deriving DecidableEq, Repr

/-- n destinations: drive port 1, drive generation 2, target extent count 1, target extents. -/
def takeDests : Nat → List Byte → Option (List DestRequest × List Byte)
  | 0, body => some ([], body)
  | n + 1, body => do
    let (port, body) ← takeNum 1 body
    let drive ← driveOfCode port
    let (generation, body) ← takeNum 2 body
    let (k, body) ← takeNum 1 body
    let (targets, body) ← takeExtents k body
    let (rest, body) ← takeDests n body
    return ({ drive := drive, generation := generation, targets := targets } :: rest, body)

/-- An ADMIT CLIP request (01 1.2). -/
structure AdmitRequest where
  clip : Nat
  card : CardId
  generation : Nat
  policy : Policy
  required : Nat
  extents : List Extent
  dests : List DestRequest
  deriving DecidableEq, Repr

def decodeAdmit (body : List Byte) : Option AdmitRequest := do
  let (clip, body) ← takeNum 2 body
  let (port, body) ← takeNum 1 body
  let card ← cardOfCode port
  let (generation, body) ← takeNum 2 body
  let (policyCode, body) ← takeNum 1 body
  let policy ← policyOfCode policyCode
  let (required, body) ← takeNum 1 body
  let (n, body) ← takeNum 1 body
  let (extents, body) ← takeExtents n body
  let (m, body) ← takeNum 1 body
  let dests ← wholeBody (takeDests m body)
  return { clip := clip, card := card, generation := generation, policy := policy, required := required,
           extents := extents, dests := dests }

/-- A PORT SET request (02 R58). -/
structure PortSetRequest where
  card : CardId
  priority : Nat
  hold : Bool
  deriving DecidableEq, Repr

def decodePortSet (body : List Byte) : Option PortSetRequest := do
  let (port, body) ← takeNum 1 body
  let card ← cardOfCode port
  let (priority, body) ← takeNum 1 body
  let holdCode ← wholeBody (takeNum 1 body)
  let hold ← flagOfCode holdCode
  return { card := card, priority := priority, hold := hold }

/-- A READ CHECKS request (06 R146). -/
structure ChecksRequest where
  clip : Nat
  first : Nat
  count : Nat
  deriving DecidableEq, Repr

def decodeReadChecks (body : List Byte) : Option ChecksRequest := do
  let (clip, body) ← takeNum 2 body
  let (first, body) ← takeNum 4 body
  let count ← wholeBody (takeNum 2 body)
  return { clip := clip, first := first, count := count }

/-- Card port 1; generation 2 (EJECT CARD). -/
def decodeEject (body : List Byte) : Option (CardId × Nat) := do
  let (port, body) ← takeNum 1 body
  let card ← cardOfCode port
  let generation ← wholeBody (takeNum 2 body)
  return (card, generation)

/-- Drive port 1; generation 2 (RELEASE DRIVE). -/
def decodeRelease (body : List Byte) : Option (DriveId × Nat) := do
  let (port, body) ← takeNum 1 body
  let drive ← driveOfCode port
  let generation ← wholeBody (takeNum 2 body)
  return (drive, generation)

/-- Port 1, card or drive (RESTART PORT). -/
def decodeRestart (body : List Byte) : Option PortId := do
  let port ← wholeBody (takeNum 1 body)
  portOfCode port

/-- A pass-through request's fields after its port (07 7.2). -/
structure PassRequest where
  generation : Nat
  first : Nat
  count : Nat
  data : List Byte
  deriving DecidableEq, Repr

/-- Generation 2; first sector 8; count 1; and what follows. -/
def takePass (body : List Byte) : Option PassRequest := do
  let (generation, body) ← takeNum 2 body
  let (first, body) ← takeNum 8 body
  let (count, body) ← takeNum 1 body
  return { generation := generation, first := first, count := count, data := body }

/-- A pass-through request with nothing after its count. -/
def takePassNoData (body : List Byte) : Option PassRequest :=
  match takePass body with
  | some r => if r.data.isEmpty then some r else none
  | none => none

def decodeCardRead (body : List Byte) : Option (CardId × PassRequest) := do
  let (port, body) ← takeNum 1 body
  let card ← cardOfCode port
  let r ← takePassNoData body
  return (card, r)

def decodeDriveRead (body : List Byte) : Option (DriveId × PassRequest) := do
  let (port, body) ← takeNum 1 body
  let drive ← driveOfCode port
  let r ← takePassNoData body
  return (drive, r)

/-- The data of a DRIVE WRITE is every byte after its count field (08 R167). -/
def decodeDriveWrite (body : List Byte) : Option (DriveId × PassRequest) := do
  let (port, body) ← takeNum 1 body
  let drive ← driveOfCode port
  let r ← takePass body
  return (drive, r)

/-- n pairs of setting code 1 and value 2, to the body's end. -/
def takePairs : Nat → List Byte → Option (List (Nat × Nat) × List Byte)
  | 0, body => some ([], body)
  | n + 1, body => do
    let (code, body) ← takeNum 1 body
    let (value, body) ← takeNum 2 body
    let (rest, body) ← takePairs n body
    return ((code, value) :: rest, body)

/-- Pair count 1; pairs. The setting codes are tested by R172, not here (08 R167). -/
def decodeConfigure (body : List Byte) : Option (List (Nat × Nat)) := do
  let (n, body) ← takeNum 1 body
  wholeBody (takePairs n body)

/-! ### Settings (08 R172, R177) -/

/-- A setting of CONFIGURE. -/
inductive Setting where
  | reserveMark | ceiling | interval
  | lowMark (d : DriveId) | highMark (d : DriveId) | writeRun (d : DriveId) | verifyRun (d : DriveId)
  deriving DecidableEq, Repr

/-- A drive port's number from a setting code whose block of four begins at base. -/
def settingDrive (base code : Nat) : Option DriveId :=
  if h : base ≤ code ∧ code < base + 4 then some ⟨code - base, by omega⟩ else none

/-- The setting a code names: 01h to 03h, and blocks of four from 10h, 14h, 18h and 1Ch (08 R177). -/
def settingOfCode (code : Nat) : Option Setting :=
  if code = 0x01 then some .reserveMark
  else if code = 0x02 then some .ceiling
  else if code = 0x03 then some .interval
  else if code < 0x14 then (settingDrive 0x10 code).map .lowMark
  else if code < 0x18 then (settingDrive 0x14 code).map .highMark
  else if code < 0x1C then (settingDrive 0x18 code).map .writeRun
  else (settingDrive 0x1C code).map .verifyRun

/-- The value lies in the setting's range (08 R172). -/
def Setting.inRange (v : Nat) : Setting → Bool
  | .reserveMark => v ≤ 128
  | .ceiling => v ≤ 7
  | .interval => 250 ≤ v && v ≤ 10000 && v % 250 = 0
  | .highMark _ => 16 ≤ v && v ≤ 96
  | .lowMark _ => 4 ≤ v
  | .writeRun _ => 1 ≤ v && v ≤ 64
  | .verifyRun _ => 1 ≤ v && v ≤ 64

end Sys2Proof.Machine
end

