-- ==== Sys2Proof/Machine/Receive.lean ====
section
/-! DEFINITION. The receiver: how it takes one byte (08 R162), and which frames reach the link check (R165). -/

namespace Sys2Proof.Machine

/-- What a byte does to the receiver: it advances it, it discards the frame, or it completes a frame with equal checks. -/
inductive RxEvent where
  | advance (r : Receiver)
  | discard
  | complete (content : List Byte)
  deriving DecidableEq, Repr

/-- The table of R162, row by row. A byte error in HUNT or SYNC returns to HUNT without a discard (R163); in LENGTH, CONTENT
or CHECK it discards the partial frame. -/
def Receiver.take : Receiver → LineByte → RxEvent
  | .hunt, .byte b => if b = 0xA5 then .advance .sync else .advance .hunt
  | .hunt, .error => .advance .hunt
  | .sync, .byte b =>
    if b = 0x3C then .advance (.length none) else if b = 0xA5 then .advance .sync else .advance .hunt
  | .sync, .error => .advance .hunt
  | .length none, .byte b => .advance (.length (some b))
  | .length (some lo), .byte hi =>
    let n := leValue [lo, hi]
    if 2 ≤ n ∧ n ≤ Config.maxLength then .advance (.content n []) else .discard
  | .length _, .error => .discard
  | .content n taken, .byte b =>
    if taken.length + 1 < n then .advance (.content n (taken ++ [b])) else .advance (.check (taken ++ [b]) none)
  | .content _ _, .error => .discard
  | .check whole none, .byte b => .advance (.check whole (some b))
  | .check whole (some lo), .byte hi =>
    if leValue [lo, hi] = (contentCheck whole).toNat then .complete whole else .discard
  | .check _ _, .error => .discard

/-- The receiver stands before the last byte of a frame with this content, its first check byte taken and right. -/
def Receiver.awaitsLast (r : Receiver) (whole : List Byte) : Bool :=
  match r with
  | .check c (some lo) => c = whole && lo = BitVec.ofNat 8 (contentCheck whole).toNat
  | _ => false

/-- A frame with this content can be completed: the receiver stands before its last byte, or it hunts and the whole frame
arrives (log 3). -/
def Receiver.completes (r : Receiver) (whole : List Byte) : Bool :=
  r.awaitsLast whole || (r = .hunt && whole.length ≤ Config.maxLength)

/-- Link refusals waiting in the reply store (08 R165). -/
def Link.refusalsWaiting (l : Link) : Nat := l.replies.countP (fun r => r.linkRefusal)

/-- The outcome of the link check for a frame of a request kind, by its tag (08 R165). -/
inductive LinkCheck where
  | accepted
  | refused (status : Status)
  | noRoom
  deriving DecidableEq, Repr

/-- The link check (08 R165): TAG_IN_USE, then LINK_BUSY, else accepted. A refusal needs room among the 8. -/
def Link.check (l : Link) (tag : Byte) : LinkCheck :=
  let refusal (st : Status) : LinkCheck := if l.refusalsWaiting < Config.linkRefusalLimit then .refused st else .noRoom
  if l.outstanding.contains tag then refusal .tagInUse
  else if Config.tagLimit ≤ l.outstanding.length then refusal .linkBusy
  else .accepted

/-- A complete frame with this content does not pass the link check and gets no refusal: its kind is not a request's, or a
link refusal finds no room (08 R163, R165). -/
def Link.drops (l : Link) : List Byte → Bool
  | kind :: tag :: _ => (RequestKind.ofByte kind).isNone || l.check tag = .noRoom
  | _ => true

/-- The byte discards a frame: in the receiver, or as the last byte of a complete frame that is dropped (08 R163). -/
def Link.discards (l : Link) (b : LineByte) : Bool :=
  match l.receiver.take b with
  | .advance _ => false
  | .discard => true
  | .complete content => l.drops content

end Sys2Proof.Machine
end

