-- ==== Sys2Proof/Machine/Stream.lean ====
section
/-! DEFINITION. The arithmetic of streams, chunks and extents (06 R132), and how a chunk is cut into media commands
(02 R49, 04 R100, 05 R113). -/

namespace Sys2Proof.Machine

/-- The sum of the extents' counts (00, 06 R132). -/
def totalSectors (extents : List Extent) : Nat := (extents.map Extent.count).sum

/-- The stream length divided by 2,048, rounded up (06 R132). -/
def chunkCountOf (length : Nat) : Nat := (length + (Config.chunkSectors - 1)) / Config.chunkSectors

/-- The first stream sector of chunk i (06 R132). -/
def chunkStart (i : Nat) : Nat := Config.chunkSectors * i

/-- The stream sector after the last of chunk i: the last chunk may be shorter (06 R132). -/
def chunkEnd (length i : Nat) : Nat := min (Config.chunkSectors * i + Config.chunkSectors) length

/-- The parts of the extents that hold stream sectors lo to hi - 1, in list order. The first extent stands at stream
position pos (06 R132: stream sector n is sector f + (n - s) of the extent whose positions contain n). -/
def cutExtents (lo hi : Nat) : Nat → List Extent → List Extent
  | _, [] => []
  | pos, e :: rest =>
    let a := max pos lo
    let b := min (pos + e.count) hi
    if a < b then { first := e.first + (a - pos), count := b - a } :: cutExtents lo hi (pos + e.count) rest
    else cutExtents lo hi (pos + e.count) rest

/-- The runs of sectors of chunk i of a stream of the given length over the given extents (02 R49, 04 R100). -/
def chunkRuns (extents : List Extent) (length i : Nat) : List Extent :=
  cutExtents (chunkStart i) (chunkEnd length i) 0 extents

/-- Two extents overlap when they share at least one sector (01 1.2). -/
def rangesOverlap (first₁ count₁ first₂ count₂ : Nat) : Bool :=
  max first₁ first₂ < min (first₁ + count₁) (first₂ + count₂)

/-- Some two extents of one list overlap each other (01 R4, check 14). -/
def selfOverlap : List Extent → Bool
  | [] => false
  | e :: rest => rest.any (fun e' => rangesOverlap e.first e.count e'.first e'.count) || selfOverlap rest

/-- The bytes of a buffer after the given bytes are placed at an offset. -/
def placeBytes (buffer : List Byte) (offset : Nat) (bytes : List Byte) : List Byte :=
  buffer.take offset ++ bytes ++ buffer.drop (offset + bytes.length)

/-- The generation after g (02 R38, 04 R87). -/
def generationAfter (g : Nat) : Nat := if g < Config.maxGeneration then g + 1 else 1

/-- The first generation after g that is not among those named (02 R38, 04 R87). The table names at most 256, so 257
tries find one. -/
def freshGeneration (named : List Nat) : Nat → Nat → Nat
  | 0, g => generationAfter g
  | tries + 1, g =>
    let g' := generationAfter g
    if named.contains g' then freshGeneration named tries g' else g'

end Sys2Proof.Machine
end

