-- ==== Sys2Proof/Machine/Ops.lean ====
section
/-! DEFINITION. The named operations over the state: one accessor and one update for each part, the link's replies and
notices, the Summary Unit's counts, the pool's slots, the media commands now on a port's lanes, and how a request's frame is
taken (08 R162 to R167). -/

namespace Sys2Proof.Machine

/-! ### Parts of the state -/

/-- CP0 to CP7. -/
def allCards : List CardId := [0, 1, 2, 3, 4, 5, 6, 7]

/-- DP0 to DP3. -/
def allDrives : List DriveId := [0, 1, 2, 3]

/-- Slots 0 to 511. -/
def allSlots : List SlotId := List.finRange Config.slotCount

def State.card (s : State) (p : CardId) : CardPort := s.cards.get p

def State.setCard (s : State) (p : CardId) (x : CardPort) : State := { s with cards := s.cards.set p.val x p.isLt }

def State.modCard (s : State) (p : CardId) (f : CardPort → CardPort) : State := s.setCard p (f (s.card p))

def State.drive (s : State) (d : DriveId) : DrivePort := s.drives.get d

def State.setDrive (s : State) (d : DriveId) (x : DrivePort) : State := { s with drives := s.drives.set d.val x d.isLt }

def State.modDrive (s : State) (d : DriveId) (f : DrivePort → DrivePort) : State := s.setDrive d (f (s.drive d))

def State.slot (s : State) (i : SlotId) : Slot := s.slots.get i

def State.setSlot (s : State) (i : SlotId) (x : Slot) : State := { s with slots := s.slots.set i.val x i.isLt }

def State.modSlot (s : State) (i : SlotId) (f : Slot → Slot) : State := s.setSlot i (f (s.slot i))

def State.modLink (s : State) (f : Link → Link) : State := { s with link := f s.link }

def State.modTable (s : State) (f : Table → Table) : State := { s with table := f s.table }

def State.modStore (s : State) (f : CheckStore → CheckStore) : State := { s with store := f s.store }

def State.modArbiter (s : State) (f : Arbiter → Arbiter) : State := { s with arbiter := f s.arbiter }

def State.modSummary (s : State) (f : Summary → Summary) : State := { s with summary := f s.summary }

/-- The engine is RESETTING (08 R174). -/
def State.isResetting (s : State) : Bool := s.link.engine = .resetting

/-! ### Clip records (01 R1) -/

def Table.clip? (t : Table) (id : Nat) : Option Clip := t.clips.find? (fun c => c.id = id)

def Table.modClip (t : Table) (id : Nat) (f : Clip → Clip) : Table :=
  { t with clips := t.clips.map (fun c => if c.id = id then f c else c) }

def State.clip? (s : State) (id : Nat) : Option Clip := s.table.clip? id

def State.modClip (s : State) (id : Nat) (f : Clip → Clip) : State := s.modTable (fun t => t.modClip id f)

/-- A clip's record with one destination changed. -/
def Clip.modDest (c : Clip) (d : DriveId) (f : Destination → Destination) : Clip :=
  { c with dests := c.dests.map (fun x => if x.drive = d then f x else x) }

/-- The in-flight count rises by 1 (01 R15). -/
def State.raiseInFlight (s : State) (id : Nat) : State := s.modClip id (fun c => { c with inFlight := c.inFlight + 1 })

/-- The in-flight count falls by 1 (01 R15). -/
def State.lowerInFlight (s : State) (id : Nat) : State := s.modClip id (fun c => { c with inFlight := c.inFlight - 1 })

/-- A card port's clip in READING (01 R9: at most one). -/
def State.readingClip? (s : State) (p : CardId) : Option Clip :=
  s.table.clips.find? (fun c => c.card = p && c.state = .reading)

/-- The clip's source is present: its card port is READY under its card generation (02 R38). -/
def State.sourcePresent (s : State) (c : Clip) : Bool :=
  (s.card c.card).presence = .ready && (s.card c.card).generation = c.generation

/-! ### Replies, notices, counts -/

/-- A notice is raised: it joins the tail, or is dropped and counted as lost when 64 are waiting (08 R169). -/
def Link.raise (l : Link) (n : Notice) : Link :=
  if l.notices.length < Config.noticeQueueSize then { l with notices := l.notices ++ [n] }
  else { l with lost := if l.lost < Config.lostMax then l.lost + 1 else l.lost }

def State.raise (s : State) (n : Notice) : State := s.modLink (fun l => l.raise n)

/-- A reply is formed and joins the reply store (08 R167, R168). -/
def State.form (s : State) (r : Reply) : State := s.modLink (fun l => { l with replies := l.replies ++ [r] })

/-- The reply to an accepted request. -/
def State.reply (s : State) (kind : RequestKind) (tag : Byte) (body : ReplyBody) : State :=
  s.form { kind := kind, tag := tag, body := body, linkRefusal := false }

/-- A countable event: its interval count and its cumulative counter rise (09 R178, R182). -/
def State.tally (s : State) (i : Fin Config.counterCount) : State :=
  s.modSummary (fun m =>
    { m with counts := m.counts.set i.val (countUp (m.counts.get i)) i.isLt,
             cumulative := m.cumulative.set i.val (m.cumulative.get i).up i.isLt })

/-- The request a pass-through record came from. -/
def PassKind.request : PassKind → RequestKind
  | .cardRead => .cardRead
  | .driveRead => .driveRead
  | .driveWrite => .driveWrite

/-- The reply to a pass-through request, at its ending (07 R160). -/
def State.answerPass (s : State) (r : PassRecord) (body : ReplyBody) : State := s.reply r.kind.request r.tag body

/-- Pass-through records answered one after another in list order (07 R157, R158). -/
def State.answerList (s : State) (status : Status) (records : List PassRecord) : State :=
  records.foldl (fun s r => s.answerPass r (.refused status)) s

/-! ### Slots (03) -/

/-- The slot becomes FREE; its owner and purpose become absent (03 R66, R68). -/
def Slot.release (x : Slot) : Slot := { x with state := .free, owner := none, purpose := none, refs := 0 }

/-- A HELD slot gives up one reference, and becomes FREE with the last (03 R67). -/
def Slot.dropRef (x : Slot) : Slot :=
  match x.state with
  | .held => if x.refs ≤ 1 then x.release else { x with refs := x.refs - 1 }
  | .free => x
  | .filling => x

/-- A filled slot becomes HELD with n references (03 R64, R65). A slot nobody is to write from is FREE. -/
def Slot.hold (x : Slot) (n : Nat) : Slot := if n = 0 then x.release else { x with state := .held, refs := n }

/-- The lowest-numbered FREE slot (03 R63, R76). -/
def State.lowestFreeSlot (s : State) : Option SlotId := allSlots.find? (fun i => (s.slot i).state = .free)

/-- The free count (03 R62). -/
def State.freeCount (s : State) : Nat := slotsIn s.slots .free

/-- Every entry of a write queue that fails the test leaves it, and each gives up its slot's reference (03 R69). -/
def State.cutWriteQueue (s : State) (d : DriveId) (keep : WriteEntry → Bool) : State :=
  let gone := (s.drive d).writeQueue.filter (fun e => !keep e)
  gone.foldl (fun s e => s.modSlot e.slot Slot.dropRef)
    (s.modDrive d (fun x => { x with writeQueue := x.writeQueue.filter keep }))

/-- A card port's slot returns to FREE and the port leaves the in-service set (03 R66, R75). -/
def State.endService (s : State) (p : CardId) : State :=
  s.modArbiter (fun a => { a with inService := a.inService.set p.val none p.isLt })

/-- A drive port's copy entry joins its write queue (04 R94). -/
def State.appendWrite (s : State) (d : DriveId) (e : WriteEntry) : State :=
  s.modDrive d (fun x => { x with writeQueue := x.writeQueue ++ [e] })

/-! ### Check Store (06) -/

/-- The recorded check of a chunk (06 R143). -/
def CheckStore.lookup (st : CheckStore) (clip chunk : Nat) : Option Check :=
  match st.rows.find? (fun r => r.clip = clip) with
  | some r => (r.entries[chunk]?).join
  | none => none

/-- A chunk's check is recorded (06 R141). -/
def CheckStore.record (st : CheckStore) (clip chunk : Nat) (v : Check) : CheckStore :=
  { st with rows := st.rows.map (fun r => if r.clip = clip then { r with entries := r.entries.set chunk (some v) } else r) }

/-- Empty entries come into being for an admitted clip (06 R140). -/
def CheckStore.reserve (st : CheckStore) (clip chunkCount : Nat) : CheckStore :=
  { rows := st.rows ++ [{ clip := clip, entries := List.replicate chunkCount none }], reserved := st.reserved + chunkCount }

/-- A taken clip's entries leave (06 R142). -/
def CheckStore.releaseClip (st : CheckStore) (clip chunkCount : Nat) : CheckStore :=
  { rows := st.rows.filter (fun r => r.clip ≠ clip), reserved := st.reserved - chunkCount }

/-! ### Media commands -/

/-- One command on a port's lanes (02 2.3, 04 4.2). -/
inductive Command where
  | geometry
  | mediaId
  | read (run : Extent)
  | write (run : Extent) (data : List Byte)
  deriving DecidableEq, Repr

/-- The answer completes the command: identity for identity, success for a write, exactly the sectors asked for a read
(02 R45, 04 R90; log 15). -/
def Command.answeredBy : Command → Answer → Bool
  | .geometry, .geometry _ _ => true
  | .mediaId, .mediaId _ => true
  | .read run, .data bytes => bytes.length = Config.sectorBytes * run.count
  | .write _ _, .success => true
  | _, _ => false

/-- The two identification commands (02 R39, 04 R88). -/
def identificationCommands : List Command := [.geometry, .mediaId]

/-- The card sectors of a clip's chunk, one run for each source extent it spans (02 R49). -/
def State.sourceRuns (s : State) (clip chunk : Nat) : List Extent :=
  match s.clip? clip with
  | some c => chunkRuns c.extents c.streamLength chunk
  | none => []

/-- The drive sectors of a clip's chunk on a drive, one run for each target extent it spans (04 R100, 05 R113). -/
def State.targetRuns (s : State) (d : DriveId) (clip chunk : Nat) : List Extent :=
  match s.clip? clip with
  | some c =>
    match c.destOn d with
    | some x => chunkRuns x.targets c.streamLength chunk
    | none => []
  | none => []

/-- The commands of a card operation, in order (02 R39, R49, R52, R54; 07 R153). -/
def State.cardCommands (s : State) : CardTask → List Command
  | .identification _ => identificationCommands
  | .copyRead clip chunk _ => (s.sourceRuns clip chunk).map .read
  | .repairRead clip chunk _ _ => (s.sourceRuns clip chunk).map .read
  | .recheckRead clip chunk => (s.sourceRuns clip chunk).map .read
  | .passThrough r => [.read { first := r.first, count := r.count }]

/-- The sub-writes of a chunk, each with the slot's bytes at its offset within the chunk (04 R100). -/
def subWrites : List Byte → List Extent → List Command
  | _, [] => []
  | data, run :: rest =>
    .write run (data.take (Config.sectorBytes * run.count)) :: subWrites (data.drop (Config.sectorBytes * run.count)) rest

/-- The commands of a drive operation, in order. A chunk write's data is the slot's as it stands now (03 R71). -/
def State.driveCommands (s : State) (d : DriveId) : DriveTask → List Command
  | .identification _ => identificationCommands
  | .chunkWrite e => subWrites (s.slot e.slot).data (s.targetRuns d e.clip e.chunk)
  | .verifyRead clip chunk => (s.targetRuns d clip chunk).map .read
  | .passThrough r =>
    match r.kind with
    | .driveWrite => [.write { first := r.first, count := r.count } r.data]
    | .driveRead => [.read { first := r.first, count := r.count }]
    | .cardRead => []

/-- The command now on a card port's lanes. -/
def State.cardCommand (s : State) (p : CardId) : Option Command :=
  match (s.card p).op with
  | some op => (s.cardCommands op.task)[op.done]?
  | none => none

/-- The command now on a drive port's lanes. -/
def State.driveCommand (s : State) (d : DriveId) : Option Command :=
  match (s.drive d).op with
  | some op => (s.driveCommands d op.task)[op.done]?
  | none => none

/-- The command now on a card port's lanes is its operation's last. -/
def State.cardAtLast (s : State) (p : CardId) : Bool :=
  match (s.card p).op with
  | some op => op.done + 1 = (s.cardCommands op.task).length
  | none => false

/-- The command now on a drive port's lanes is its operation's last. -/
def State.driveAtLast (s : State) (d : DriveId) : Bool :=
  match (s.drive d).op with
  | some op => op.done + 1 = (s.driveCommands d op.task).length
  | none => false

/-- An answer completes the command on a card port's lanes. -/
def State.cardAnswers (s : State) (p : CardId) (a : Answer) : Bool := (s.cardCommand p).any (fun c => c.answeredBy a)

/-- An answer completes the command on a drive port's lanes. -/
def State.driveAnswers (s : State) (d : DriveId) (a : Answer) : Bool := (s.driveCommand d).any (fun c => c.answeredBy a)

/-- A card operation just taken up: no command done, a fresh check (06 R135), and the remainder it starts from. -/
def CardOp.start (task : CardTask) (remainder : Digest) : CardOp :=
  { task := task, done := 0, retries := 0, filled := 0, check := checkInit, remainder := remainder }

/-- A drive operation just taken up. -/
def DriveOp.start (task : DriveTask) : DriveOp := { task := task, done := 0, retries := 0, check := checkInit }

/-! ### Requests (08 R162 to R167) -/

/-- The link after a complete frame: the receiver hunts and the gap timer is stopped (08 R162, R164). -/
def Link.frameTaken (l : Link) : Link := { l with receiver := .hunt, gapTimer := false }

/-- The state in which an owner takes an accepted request: the frame taken and its tag outstanding (08 R165). -/
def State.accepted (s : State) (tag : Byte) : State :=
  s.modLink (fun l => { l.frameTaken with outstanding := l.outstanding ++ [tag] })

/-- The content of a request's frame: kind, tag, body (08 8.2). -/
def requestContent (kind : RequestKind) (tag : Byte) (body : List Byte) : List Byte :=
  BitVec.ofNat 8 kind.code :: tag :: body

/-- A request's frame is completed: the link check (08 R165), the decoding of the body (R167), and the owner. A frame that
the receiver is not about to complete is not taken (log 2). -/
def State.request {α : Type} (s : State) (kind : RequestKind) (tag : Byte) (body : List Byte)
    (decode : List Byte → Option α) (owner : α → State → State) : State :=
  if s.link.receiver.completes (requestContent kind tag body) then
    match s.link.check tag with
    | .refused st =>
      (s.modLink Link.frameTaken).form { kind := kind, tag := tag, body := .refused st, linkRefusal := true }
    | .noRoom => (s.modLink Link.frameTaken).tally framesCounter
    | .accepted =>
      match decode body with
      | none => (s.accepted tag).reply kind tag (.refused .badBody)
      | some a => owner a (s.accepted tag)
  else s

end Sys2Proof.Machine
end

