-- ==== Sys2Proof/Machine/Lifecycle.lean ====
section
/-! DEFINITION. What the Offload Table does with the ports' reports (01): promotion, CLOSING, LOST destinations, the end test
and the terminal entry; the losses of a card and of a drive; and what closes every event that can end an operation. -/

namespace Sys2Proof.Machine

/-! ### Promotion (01 R9) -/

/-- The oldest QUEUED clip of a card port in its clip queue. -/
def State.oldestQueued (s : State) (p : CardId) : Option Nat :=
  (s.card p).clipQueue.find? (fun id => (s.clip? id).any (fun c => c.card = p && c.state = .queued))

/-- Some clip of the card port is READING or RECHECKING. -/
def State.portReads (s : State) (p : CardId) : Bool := s.table.clips.any (fun c => c.card = p && c.state.isReading)

/-- The QUEUED-to-READING rule applied to a card port (01 R9). -/
def State.promote (s : State) (p : CardId) : State :=
  if (s.card p).presence = .ready && !s.portReads p then
    match s.oldestQueued p with
    | some id => s.modClip id (fun c => { c with state := .reading })
    | none => s
  else s

/-! ### CLOSING (01 R14, R16) -/

/-- A closing clip's entries leave every write queue, every backlog and its card port's repair list (01 R16). -/
def State.clearClipWork (s : State) (c : Clip) : State :=
  let s := allDrives.foldl (fun s d =>
    (s.cutWriteQueue d (fun e => e.clip ≠ c.id)).modDrive d
      (fun x => { x with backlog := x.backlog.filter (fun e => e.clip ≠ c.id) })) s
  s.modCard c.card (fun x => { x with repairs := x.repairs.filter (fun e => e.clip ≠ c.id) })

/-- The operation in flight is a recheck read. -/
def CardPort.inRecheckRead (x : CardPort) : Bool :=
  match x.op with
  | some op =>
    match op.task with
    | .recheckRead _ _ => true
    | .identification _ | .copyRead _ _ _ | .repairRead _ _ _ _ | .passThrough _ => false
  | none => false

/-- A closing clip's recheck pass stops: the recheck state is cleared at once, or at the end of the recheck read in flight
(01 R16, 05 R128; log 11). -/
def State.stopRecheck (s : State) (c : Clip) : State :=
  s.modCard c.card (fun x =>
    if x.recheck.any (fun r => r.clip = c.id) && !x.inRecheckRead then { x with recheck := none } else x)

/-- A clip in QUEUED, READING, RECHECKING or DRAINING enters CLOSING (01 R14, R16). A clip in any other state is left as it
stands. -/
def State.enterClosing (s : State) (id : Nat) (outcome : PendingOutcome) (cause : Cause) : State :=
  match s.clip? id with
  | none => s
  | some c =>
    if c.state.isOpen then
      let s := s.modClip id (fun c => { c with state := .closing, pendingOutcome := some outcome, cause := some cause })
      let s := (s.clearClipWork c).stopRecheck c
      if c.state.isReading then s.promote c.card else s
    else s

/-! ### LOST destinations (01 R26, R27) -/

/-- An ACTIVE destination of a clip outside CLOSING becomes LOST and its outstanding work leaves (01 R26), without the test
of R27. -/
def State.markLost (s : State) (id : Nat) (d : DriveId) (cause : LossCause) : State :=
  match s.clip? id with
  | none => s
  | some c =>
    if c.state.isOpen && c.activeOn d then
      let s := s.modClip id (fun c => c.modDest d (fun x => { x with state := .lost, lossCause := some cause }))
      let s := (s.cutWriteQueue d (fun e => e.clip ≠ id)).modDrive d
        (fun x => { x with backlog := x.backlog.filter (fun e => e.clip ≠ id) })
      s.modCard c.card (fun x => { x with repairs := x.repairs.filter (fun e => !(e.clip = id && e.drive = d)) })
    else s

/-- The required-copies rule (01 R27). -/
def State.requireCopies (s : State) (id : Nat) : State :=
  match s.clip? id with
  | none => s
  | some c => if c.state.isOpen && c.standing < c.required then s.enterClosing id .failed .tooFewCopies else s

/-- A destination becomes LOST, with R26 and then R27. A destination that is not ACTIVE, or whose clip is in CLOSING, is left
as it stands. -/
def State.loseDest (s : State) (id : Nat) (d : DriveId) (cause : LossCause) : State :=
  match s.clip? id with
  | none => s
  | some c => if c.state.isOpen && c.activeOn d then (s.markLost id d cause).requireCopies id else s

/-! ### The terminal entry (01 R17) -/

/-- The clip leaves its card port's clip queue; this raises CARD EVENT IDLE when it empties a READY port's queue (02 R43). -/
def State.leaveClipQueue (s : State) (c : Clip) : State :=
  let before := (s.card c.card).clipQueue
  let after := before.filter (fun id => id ≠ c.id)
  let s := s.modCard c.card (fun x => { x with clipQueue := after })
  if before.contains c.id && after.isEmpty && (s.card c.card).presence = .ready then
    s.raise (.card c.card (s.card c.card).generation .idle)
  else s

/-- The terminal entry of a clip, in the six steps of R17. -/
def State.terminalEntry (s : State) (c : Clip) : State :=
  -- 1: its claims leave every claim map
  let s := allDrives.foldl (fun s d => s.modDrive d (fun x => { x with claims := x.claims.filter (fun k => k.clip ≠ c.id) })) s
  let s := s.modClip c.id (fun x => { x with state := c.outcome, pendingOutcome := none })
  -- 2: its id leaves its clip queue
  let s := s.leaveClipQueue c
  -- 3: a recheck state of PENDING becomes NOT_DONE
  let s := s.modClip c.id (fun x => { x with recheck := if x.recheck = some .pending then some .notDone else x.recheck })
  -- 4: it joins the result list
  let s := s.modTable (fun t => { t with results := t.results ++ [c.id] })
  -- 5: CLIP ENDED
  let s := s.raise (.clipEnded c.id c.outcome)
  -- 6: R9
  s.promote c.card

/-- The end test of one clip: R17 for CLOSING, R13 for DRAINING. -/
def State.endTest (s : State) (id : Nat) : State :=
  match s.clip? id with
  | none => s
  | some c => if c.due then s.terminalEntry c else s

/-- The end test of every clip, in order of admission (01 R17). -/
def State.endTestAll (s : State) : State := (s.table.clips.map Clip.id).foldl (fun s id => s.endTest id) s

/-! ### Recheck results (01 R12) -/

/-- The result of a recheck pass applied to a clip in RECHECKING. -/
def State.applyRecheck (s : State) (id : Nat) (result : RecheckState) : State :=
  match s.clip? id with
  | none => s
  | some c =>
    if c.state = .rechecking then
      match result with
      | .mismatch => (s.modClip id (fun c => { c with recheck := some .mismatch })).enterClosing id .failed .recheckMismatch
      | .passed | .notDone | .pending =>
        (s.modClip id (fun c => { c with recheck := some result, state := .draining })).promote c.card
    else s

/-! ### Losses of a card (01 R20, 02 R41, R42, R53) -/

/-- The operation in flight ends without completing: its slot returns FREE, its port leaves service, and the clip's in-flight
count falls (01 R15, 03 R66, R75). -/
def State.dropCardOp (s : State) (p : CardId) : State :=
  match (s.card p).op with
  | none => s
  | some op =>
    let s := s.modCard p (fun x => { x with op := none })
    match op.task with
    | .identification _ => s
    | .copyRead clip _ slot => ((s.modSlot slot Slot.release).endService p).lowerInFlight clip
    | .repairRead clip _ _ slot => ((s.modSlot slot Slot.release).endService p).lowerInFlight clip
    | .recheckRead clip _ => s.lowerInFlight clip
    | .passThrough _ => s

/-- The clip an operation touches (01 R15). -/
def CardTask.clip? : CardTask → Option Nat
  | .identification _ => none
  | .copyRead clip _ _ => some clip
  | .repairRead clip _ _ _ => some clip
  | .recheckRead clip _ => some clip
  | .passThrough _ => none

/-- The end test of the clip an ended operation touched, if any. -/
def State.endTestOf (s : State) : Option Nat → State
  | some id => s.endTest id
  | none => s

/-- Step 1 of a card loss: the operation in flight is abandoned and reported, and a pass-through read is answered
(02 R41, R42; 07 R157). A clip in CLOSING whose last operation this was becomes terminal at this step, ahead of the port's own event
(R41); that a clip in DRAINING does so too is the model's choice (log 24). -/
def State.abandonCardOp (s : State) (p : CardId) (answer : Status) : State :=
  match (s.card p).op with
  | none => s
  | some op =>
    let s := (s.dropCardOp p).endTestOf op.task.clip?
    match op.task with
    | .passThrough r => s.answerPass r (.refused answer)
    | .identification _ | .copyRead _ _ _ | .repairRead _ _ _ _ | .recheckRead _ _ => s

/-- The repairs a card port owes: those on its repair list, and that of the repair read in flight (01 R20). -/
def CardPort.owedRepairs (x : CardPort) : List RepairEntry :=
  match x.op with
  | some op =>
    match op.task with
    | .repairRead clip chunk drive _ => { clip := clip, chunk := chunk, drive := drive } :: x.repairs
    | .identification _ | .copyRead _ _ _ | .recheckRead _ _ | .passThrough _ => x.repairs
  | none => x.repairs

/-- The destinations a card loss costs: the ACTIVE ones, of clips outside CLOSING, that are owed a repair (01 R20, R26). -/
def State.owedDests (s : State) (p : CardId) : List RepairEntry :=
  (s.card p).owedRepairs.filter (fun e => (s.clip? e.clip).any (fun c => c.state.isOpen && c.activeOn e.drive))

/-- The effect of a card loss on one clip of the port's queue, by its state (01 R20). -/
def State.cardLossOf (s : State) (id : Nat) : State :=
  match s.clip? id with
  | none => s
  | some c =>
    match c.state with
    | .queued | .reading => s.enterClosing id .failed .sourceLost
    | .rechecking => s.modClip id (fun c => { c with recheck := some .notDone, state := .draining })
    | .draining | .closing | .done | .degraded | .failed | .cancelled => s

/-- The lists of a lost card empty (02 R53): every destination that was owed a repair becomes LOST with NO_SOURCE, and the
pending CARD READs are answered in list order (07 R157). -/
def State.emptyCardLists (s : State) (p : CardId) (owed : List RepairEntry) (answer : Status) : State :=
  let s := s.modCard p (fun x => { x with repairs := [] })
  let s := owed.foldl (fun s e => s.markLost e.clip e.drive .noSource) s
  let waiting := (s.card p).passList
  (s.modCard p (fun x => { x with passList := [] })).answerList answer waiting

/-- The card loss as the table applies it (01 R20): by each clip's state, then R27 to each clip that lost a destination, then
the end tests (log 8). The port's recheck state is cleared (05 R128). -/
def State.reportCardLoss (s : State) (p : CardId) (owed : List RepairEntry) : State :=
  let s := s.modCard p (fun x => { x with recheck := none })
  let s := (s.card p).clipQueue.foldl (fun s id => s.cardLossOf id) s
  let s := owed.foldl (fun s e => s.requireCopies e.clip) s
  s.endTestAll

/-! ### Losses of a drive (01 R24, 04 R102, R103) -/

/-- The clip an operation touches (01 R15). -/
def DriveTask.clip? : DriveTask → Option Nat
  | .identification _ => none
  | .chunkWrite e => some e.clip
  | .verifyRead clip _ => some clip
  | .passThrough _ => none

/-- The operation in flight leaves the port, and the in-flight count of its clip falls (01 R15). -/
def State.dropDriveOp (s : State) (d : DriveId) : State :=
  match (s.drive d).op with
  | none => s
  | some op =>
    let s := s.modDrive d (fun x => { x with op := none })
    match op.task.clip? with
    | some id => s.lowerInFlight id
    | none => s

/-- Step 1 of a drive loss: the operation in flight is ended and reported, and a pass-through operation is answered
(04 R102, R103; 07 R157). That a clip whose last operation this was takes its terminal entry at this step, ahead of the port's own
event and of clips admitted earlier that end in step 6, is the model's choice: R102 does not say, and R17 could be read to put the
clips of the whole loss in order of admission (log 24). -/
def State.abandonDriveOp (s : State) (d : DriveId) (answer : Status) : State :=
  match (s.drive d).op with
  | none => s
  | some op =>
    let s := (s.dropDriveOp d).endTestOf op.task.clip?
    match op.task with
    | .passThrough r => s.answerPass r (.refused answer)
    | .identification _ | .chunkWrite _ | .verifyRead _ _ => s

/-- Step 5 of a drive loss: the write queue empties with its references, the backlog and the pass-through list empty, and the
latch clears (04 R102). -/
def State.emptyDriveLists (s : State) (d : DriveId) (answer : Status) : State :=
  let s := (s.cutWriteQueue d (fun _ => false)).modDrive d (fun x => { x with backlog := [], latch := false })
  let waiting := (s.drive d).passList
  (s.modDrive d (fun x => { x with passList := [] })).answerList answer waiting

/-- The drive loss as the table applies it: every ACTIVE destination on the port becomes LOST, with R26, R27 and the end
tests (01 R24). -/
def State.reportDriveLoss (s : State) (d : DriveId) (cause : LossCause) : State :=
  ((s.table.clips.map Clip.id).foldl (fun s id => s.loseDest id d cause) s).endTestAll

/-! ### The close of an event -/

/-- No port has a media operation in flight (08 R175). -/
def State.quiet (s : State) : Bool :=
  allCards.all (fun p => (s.card p).op.isNone) && allDrives.all (fun d => (s.drive d).op.isNone)

/-- The alternation restarts: phase WRITE, run count 0 (05 R119). -/
def DrivePort.restartRuns (x : DrivePort) : DrivePort := { x with phase := .write, runCount := 0 }

/-- The engine leaves RESETTING: it becomes RUNNING, every drive port's alternation restarts, and the OK of the ENGINE RESET
is formed (08 R175, 04 R110). -/
def State.leaveResetting (s : State) : State :=
  let tag := s.link.resetTag
  let s := s.modLink (fun l => { l with engine := .running, resetTag := none })
  let s := allDrives.foldl (fun s d => s.modDrive d DrivePort.restartRuns) s
  match tag with
  | some t => s.reply .engineReset t .done
  | none => s

/-- "At the event at which no port has a media operation in flight" (08 R175). -/
def State.leaveIfQuiet (s : State) : State := if s.isResetting && s.quiet then s.leaveResetting else s

/-- A drive port takes notice of the change an event made to its write queue's length: the latch (04 R96) and the
watermark (09 R178; log 10). -/
def State.observeQueue (old : State) (s : State) (d : DriveId) : State :=
  let n := (s.drive d).writeQueue.length
  if n = (old.drive d).writeQueue.length then s
  else
    (s.modDrive d (fun x => { x with latch := latchAfter x.latch x.lowMark x.highMark n })).modSummary
      (fun m => { m with highestQueue := m.highestQueue.set d.val (max (m.highestQueue.get d) n) d.isLt })

/-- The Summary Unit takes notice of the change an event made to the free count (09 R178). -/
def State.observeFree (old : State) (s : State) : State :=
  if s.freeCount = old.freeCount then s
  else s.modSummary (fun m => { m with lowestFree := min m.lowestFree s.freeCount })

/-- The changes of queue lengths and of the free count that an event made are noticed (03 R72, 04 R94, R96). -/
def State.observe (old : State) (s : State) : State :=
  State.observeFree old (allDrives.foldl (State.observeQueue old) s)

/-- The drive ports that an event has brought to a free point without work decide there (05 R117, steps 1 and 4; log 17). Where
work is offered the decision is made when it is taken up. -/
def State.settleRuns (old : State) (s : State) : State :=
  allDrives.foldl (fun s d => s.modDrive d (fun x => (old.drive d).settleRuns x)) s

/-- A whole event that may end an operation or move queue entries: its effect, the runs of drive ports left without work, the end
of RESETTING when it is due, and the notice taken of the changes. -/
def State.event (s : State) (effect : State → State) : State :=
  State.observe s (State.settleRuns s (effect s)).leaveIfQuiet

end Sys2Proof.Machine
end

