-- ==== Sys2Proof/Machine/LinkRows.lean ====
section
/-! DEFINITION. The rows of the Link Interface (08): bytes, discards and the gap timer; the transmitter; HELLO, STATUS and
CONFIGURE. -/

namespace Sys2Proof.Machine

/-! ### Receiving (08 8.2) -/

/-- BYTE_RECEIVED: the receiver advances (08 R162). The gap timer starts afresh at each byte taken outside HUNT and is stopped
in HUNT (R164). A byte that completes or discards a frame is another row's (log 2). -/
def execByteReceived (b : LineByte) (s : State) : Host.Outcome State Fault Refusal :=
  match s.link.receiver.take b with
  | .advance r => .next (s.modLink (fun l => { l with receiver := r, gapTimer := r ≠ .hunt }))
  | .discard => .next s
  | .complete _ => .next s

/-- A discard: the receiver returns to HUNT and the frame is counted (08 R163). -/
def State.discardFrame (s : State) : State := (s.modLink Link.frameTaken).tally framesCounter

/-- FRAME_DISCARD: the byte at which a frame is discarded (08 R163, R165). -/
def execFrameDiscard (b : LineByte) (s : State) : Host.Outcome State Fault Refusal :=
  .next (if s.link.discards b then s.discardFrame else s)

/-- GAP_TIMER_EXPIRY: in SYNC the receiver returns to HUNT with no discard; in LENGTH, CONTENT or CHECK the partial frame is
discarded (08 R164). A stopped timer does not expire. -/
def execGapTimerExpiry (s : State) : Host.Outcome State Fault Refusal :=
  .next (if s.link.gapTimer then
    match s.link.receiver with
    | .hunt => s.modLink Link.frameTaken
    | .sync => s.modLink Link.frameTaken
    | .length _ => s.discardFrame
    | .content _ _ => s.discardFrame
    | .check _ _ => s.discardFrame
  else s)

/-! ### Sending (08 8.4, 8.5) -/

/-- The transmitter begins a frame with the given content, its unstated bytes filled with free values (log 6). -/
def State.send (s : State) (content : Field) (frees : Option Byte) : State :=
  { s with link := { s.link with transmitter := .sending (frameBytes (fillBody s.freeValues content)) frees },
           freeValues := s.freeValues + content.length }

/-- The notice queue after its head is taken: a GAP joins the tail when notices have been lost (08 R169). -/
def Link.takeNotice (l : Link) (rest : List Notice) : Link :=
  if 0 < l.lost then { l with notices := rest ++ [.gap l.lost], lost := 0 } else { l with notices := rest }

/-- TRANSMITTER_TAKES_FRAME: an IDLE transmitter takes the oldest reply, else the head notice (08 R168, R169). -/
def execTransmitterTakesFrame (s : State) : Host.Outcome State Fault Refusal :=
  .next (match s.link.transmitter with
    | .sending _ _ => s
    | .idle =>
      match s.link.replies with
      | r :: rest =>
        (s.modLink (fun l => { l with replies := rest })).send r.content (if r.linkRefusal then none else some r.tag)
      | [] =>
        match s.link.notices with
        | n :: rest => (s.modLink (fun l => l.takeNotice rest)).send n.content none
        | [] => s)

/-- END_OF_SENDING: the frame's last byte has been sent; a reply's tag leaves the outstanding set (08 R166, R168). -/
def execEndOfSending (s : State) : Host.Outcome State Fault Refusal :=
  .next (match s.link.transmitter with
    | .idle => s
    | .sending _ none => s.modLink (fun l => { l with transmitter := .idle })
    | .sending _ (some tag) =>
      s.modLink (fun l => { l with transmitter := .idle, outstanding := l.outstanding.filter (fun t => t ≠ tag) }))

/-! ### HELLO and STATUS (08 8.6) -/

/-- HELLO is answered in either engine state and changes nothing (08 R170). -/
def State.takeHello (s : State) (tag : Byte) : State := s.reply .hello tag (.hello s.link.lineRate)

def execHello (tag : Byte) (body : List Byte) (s : State) : Host.Outcome State Fault Refusal :=
  .next (s.request .hello tag body decodeEmpty (fun _ s => s.takeHello tag))

/-- A card port's part of STATUS (02 R40, R43; 08 R171). -/
def State.cardStatus (s : State) (p : CardId) : CardStatus :=
  let x := s.card p
  { presence := x.presence, generation := x.generation, capacity := x.capacity, mediaId := x.mediaId,
    clipQueue := x.clipQueue.length, repairs := x.repairs.length, passList := x.passList.length,
    priority := s.arbiter.priority.get p, hold := s.arbiter.hold.get p }

/-- A drive port's part of STATUS (04 R89; 08 R171). -/
def State.driveStatus (s : State) (d : DriveId) : DriveStatus :=
  let x := s.drive d
  { presence := x.presence, generation := x.generation, capacity := x.capacity, mediaId := x.mediaId,
    writeQueue := x.writeQueue.length, backlog := x.backlog.length, latch := x.latch, claims := x.claims.length,
    passList := x.passList.length, lowMark := x.lowMark, highMark := x.highMark, writeRun := x.writeRun,
    verifyRun := x.verifyRun }

/-- Every block's part of STATUS, all taken at one moment (08 R171; log 5). The card records stand from CP0 to CP7, the drive records
from DP0 to DP3 and the in-service bytes from CP0 to CP7: R177 gives an order for the counters alone, and these are the model's
choice (log 21). -/
def State.report (s : State) : StatusReport :=
  { engine := s.link.engine, cards := allCards.map s.cardStatus, drives := allDrives.map s.driveStatus,
    free := s.freeCount, filling := slotsIn s.slots .filling, held := slotsIn s.slots .held,
    heldRepair := heldRepairCount s.slots, inService := s.arbiter.inService.toList,
    reserveMark := s.arbiter.reserveMark, ceiling := s.arbiter.ceiling,
    records := s.table.clips.length, results := s.table.results.length,
    reserved := s.store.reserved, room := Config.storeSize - s.store.reserved,
    outstanding := s.link.outstanding.length, notices := s.link.notices.length, lost := s.link.lost,
    interval := s.summary.interval, counters := s.summary.cumulative.toList }

/-- STATUS is answered in either engine state and changes nothing (08 R171). -/
def State.takeStatus (s : State) (tag : Byte) : State := s.reply .status tag (.status s.report)

def execStatus (tag : Byte) (body : List Byte) (s : State) : Host.Outcome State Fault Refusal :=
  .next (s.request .status tag body decodeEmpty (fun _ s => s.takeStatus tag))

/-! ### CONFIGURE (08 R172, R173) -/

/-- The position and value of a setting's first pair in the list (log 7). -/
def listed (pairs : List (Nat × Nat)) (st : Setting) : Option (Nat × Nat) :=
  (pairs.zipIdx.find? (fun x => settingOfCode x.1.1 = some st)).map (fun x => (x.2, x.1.2))

/-- A drive port's marks after the request do not satisfy low mark ≤ high mark - 4, and the fault lies with the pair at this
position: the later of the two where the list sets both (08 R172). -/
def State.marksFault (s : State) (pairs : List (Nat × Nat)) (i : Nat) (d : DriveId) : Bool :=
  match listed pairs (.lowMark d), listed pairs (.highMark d) with
  | some (i₁, low), some (i₂, high) => !decide (low + 4 ≤ high) && decide (i = max i₁ i₂)
  | some (_, low), none => !decide (low + 4 ≤ (s.drive d).highMark)
  | none, some (_, high) => !decide ((s.drive d).lowMark + 4 ≤ high)
  | none, none => false

/-- The pair at a position is at fault (08 R172). -/
def State.pairFault (s : State) (pairs : List (Nat × Nat)) (i : Nat) (code value : Nat) : Bool :=
  match settingOfCode code with
  | none => true
  | some st =>
    (pairs.take i).any (fun x => settingOfCode x.1 = some st) || !st.inRange value ||
      (match st with
       | .lowMark d => s.marksFault pairs i d
       | .highMark d => s.marksFault pairs i d
       | .reserveMark | .ceiling | .interval | .writeRun _ | .verifyRun _ => false)

/-- The position of the first pair at fault (08 R172). -/
def State.firstFault (s : State) (pairs : List (Nat × Nat)) : Option Nat :=
  (pairs.zipIdx.find? (fun x => s.pairFault pairs x.2 x.1.1 x.1.2)).map (fun x => x.2)

/-- One setting is recorded (08 R173). -/
def State.applySetting (s : State) (value : Nat) : Setting → State
  | .reserveMark => s.modArbiter (fun a => { a with reserveMark := value })
  | .ceiling => s.modArbiter (fun a => { a with ceiling := value })
  | .interval => s.modSummary (fun m => { m with interval := value })
  | .lowMark d => s.modDrive d (fun x => { x with lowMark := value })
  | .highMark d => s.modDrive d (fun x => { x with highMark := value })
  | .writeRun d => s.modDrive d (fun x => { x with writeRun := value })
  | .verifyRun d => s.modDrive d (fun x => { x with verifyRun := value })

/-- Every setting of an accepted list is recorded (08 R173). -/
def State.applyPairs (s : State) (pairs : List (Nat × Nat)) : State :=
  pairs.foldl (fun s x =>
    match settingOfCode x.1 with
    | some st => s.applySetting x.2 st
    | none => s) s

/-- CONFIGURE is applied whole or not at all (08 R172). -/
def State.takeConfigure (s : State) (tag : Byte) (pairs : List (Nat × Nat)) : State :=
  if s.isResetting then s.reply .configure tag (.refused .resetting)
  else
    match s.firstFault pairs with
    | some i => s.reply .configure tag (.pairAtFault i)
    | none => (s.applyPairs pairs).reply .configure tag .done

def execConfigure (tag : Byte) (body : List Byte) (s : State) : Host.Outcome State Fault Refusal :=
  .next (s.request .configure tag body decodeConfigure (fun pairs s => s.takeConfigure tag pairs))

end Sys2Proof.Machine
end

