-- ==== Sys2Proof/Machine/TableRows.lean ====
section
/-! DEFINITION. The Offload Table's requests (01) and READ CHECKS (06), and the row TERMINAL_ENTRY. -/

namespace Sys2Proof.Machine

/-! ### ADMIT CLIP (01 1.2) -/

/-- The range ends beyond the capacity; a medium of no known capacity holds no range. -/
def beyond (capacity : Option Nat) (first count : Nat) : Bool :=
  match capacity with
  | some c => decide (c < first + count)
  | none => true

/-- The stream length of an admission (01 1.1). -/
def AdmitRequest.length (q : AdmitRequest) : Nat := totalSectors q.extents

/-- The chunk count of an admission (06 R132). -/
def AdmitRequest.chunkCount (q : AdmitRequest) : Nat := chunkCountOf q.length

/-- Check 4: a list of more than 16 extents, or an extent of count 0. -/
def badExtentList (extents : List Extent) : Bool :=
  decide (Config.maxExtents < extents.length) || extents.any (fun e => e.count = 0)

/-- Check 5: a drive port appears twice. -/
def drivesRepeat : List DestRequest → Bool
  | [] => false
  | x :: rest => rest.any (fun y => y.drive = x.drive) || drivesRepeat rest

/-- The position and drive port of the first destination that fails a check (01 R5). -/
def firstFailing (bad : DestRequest → Bool) : Nat → List DestRequest → Option (Nat × DriveId)
  | _, [] => none
  | i, x :: rest => if bad x then some (i, x.drive) else firstFailing bad (i + 1) rest

/-- The DRIVE WRITE requests on a drive port's pass-through list or in flight (04 R92, 07 R156). -/
def DrivePort.driveWrites (x : DrivePort) : List PassRecord :=
  let inFlight : List PassRecord :=
    match x.op with
    | some op =>
      match op.task with
      | .passThrough r => [r]
      | .identification _ | .chunkWrite _ | .verifyRead _ _ => []
    | none => []
  (x.passList ++ inFlight).filter (fun r => r.kind = .driveWrite)

/-- Check 14 for one destination (01 R4, 04 R92). -/
def State.targetOverlaps (s : State) (x : DestRequest) : Bool :=
  x.targets.any (fun e => (s.drive x.drive).claims.any (fun k => rangesOverlap e.first e.count k.first k.count))
    || selfOverlap x.targets

/-- Check 15 for one destination (01 R4, 04 R92). -/
def State.targetBusy (s : State) (x : DestRequest) : Bool :=
  x.targets.any (fun e => (s.drive x.drive).driveWrites.any (fun r => rangesOverlap e.first e.count r.first r.count))

/-- A check made for each destination (01 R5). -/
def destCheck (q : AdmitRequest) (status : Status) (bad : DestRequest → Bool) : Option ReplyBody :=
  (firstFailing bad 0 q.dests).map (fun x => .admitRefused status x.1 x.2)

/-- Checks 10 to 15, in order (01 R4, R5). -/
def State.destRefusal (s : State) (q : AdmitRequest) : Option ReplyBody :=
  (destCheck q .driveNotOnline (fun x => (s.drive x.drive).presence ≠ .online)).orElse fun _ =>
  (destCheck q .staleDrive (fun x => x.generation ≠ (s.drive x.drive).generation)).orElse fun _ =>
  (destCheck q .lengthMismatch (fun x => totalSectors x.targets ≠ q.length)).orElse fun _ =>
  (destCheck q .targetRange (fun x => x.targets.any (fun e => beyond (s.drive x.drive).capacity e.first e.count))).orElse
    fun _ =>
  (destCheck q .targetOverlap s.targetOverlaps).orElse fun _ =>
  destCheck q .targetBusy s.targetBusy

/-- The sixteen admission checks in order: the refusal of the first that fails (01 R4). Clip id 0 is always in use (R1). -/
def State.admitRefusal (s : State) (q : AdmitRequest) : Option ReplyBody :=
  if s.isResetting then some (.refused .resetting)
  else if Config.tableSize ≤ s.table.clips.length then some (.refused .tableFull)
  else if q.clip = 0 || (s.clip? q.clip).isSome then some (.refused .idInUse)
  else if badExtentList q.extents || q.dests.any (fun x => badExtentList x.targets) then some (.refused .badExtents)
  else if q.dests.isEmpty || decide (Config.maxDestinations < q.dests.length) || drivesRepeat q.dests then
    some (.refused .badDestinations)
  else if q.required = 0 || decide (q.dests.length < q.required) then some (.refused .badCopies)
  else if (s.card q.card).presence ≠ .ready then some (.refused .cardNotReady)
  else if q.generation ≠ (s.card q.card).generation then some (.refused .staleCard)
  else if q.extents.any (fun e => beyond (s.card q.card).capacity e.first e.count) then some (.refused .sourceRange)
  else (s.destRefusal q).orElse fun _ =>
    if Config.storeSize < s.store.reserved + q.chunkCount then some (.refused .checkStoreFull) else none

/-- A destination record at admission (01 R3). -/
def DestRequest.record (x : DestRequest) : Destination :=
  { drive := x.drive, generation := x.generation, targets := x.targets, state := .active, verified := false,
    lossCause := none, chunksWritten := 0, chunksVerified := 0, repairsUsed := 0 }

/-- A clip record at admission (01 1.1, R2, R3). -/
def AdmitRequest.record (q : AdmitRequest) : Clip :=
  { id := q.clip, card := q.card, generation := q.generation, extents := q.extents, streamLength := q.length,
    chunkCount := q.chunkCount, policy := q.policy, required := q.required, dests := q.dests.map DestRequest.record,
    state := .queued, pendingOutcome := none, cause := none, chunksRead := 0, remainder := remainderInit, digest := none,
    recheck := if q.policy = .readbackRecheck then some .pending else none, sourceUnstable := false, inFlight := 0 }

/-- The record of a clip whose stream is empty: DONE, digest 0, every destination COPIED (01 R7). -/
def AdmitRequest.emptyRecord (q : AdmitRequest) : Clip :=
  { q.record with
    state := .done, digest := some 0,
    dests := q.dests.map (fun x => { x.record with state := .copied, verified := q.policy ≠ .none }),
    recheck := if q.policy = .readbackRecheck then some .passed else none }

/-- A claim at its place in order of first sector (04 R91). -/
def insertClaim (k : Claim) : List Claim → List Claim
  | [] => [k]
  | x :: rest => if k.first < x.first then k :: x :: rest else x :: insertClaim k rest

/-- One claim for each target extent of each destination (01 R6). -/
def State.placeClaims (s : State) (clip : Nat) (dests : List DestRequest) : State :=
  dests.foldl (fun s x =>
    s.modDrive x.drive (fun y =>
      { y with claims := x.targets.foldl (fun m e => insertClaim { clip := clip, first := e.first, count := e.count } m) y.claims }))
    s

/-- An accepted clip's record, reservation and claims (01 R6, 06 R140). -/
def State.enrol (s : State) (q : AdmitRequest) (record : Clip) : State :=
  ((s.modTable (fun t => { t with clips := t.clips ++ [record] })).placeClaims q.clip q.dests).modStore
    (fun st => st.reserve q.clip q.chunkCount)

/-- ADMIT CLIP at the table (01 R4 to R7). An empty clip joins no clip queue and takes its terminal entry after the reply. -/
def State.takeAdmit (s : State) (tag : Byte) (q : AdmitRequest) : State :=
  match s.admitRefusal q with
  | some refusal => s.reply .admitClip tag refusal
  | none =>
    if q.chunkCount = 0 then
      ((s.enrol q q.emptyRecord).reply .admitClip tag (.admitted q.clip 0)).terminalEntry q.emptyRecord
    else
      (((s.enrol q q.record).modCard q.card (fun x => { x with clipQueue := x.clipQueue ++ [q.clip] })).promote q.card).reply
        .admitClip tag (.admitted q.clip q.chunkCount)

def execAdmitClip (tag : Byte) (body : List Byte) (s : State) : Host.Outcome State Fault Refusal :=
  .next (s.request .admitClip tag body decodeAdmit (fun q s => s.takeAdmit tag q))

/-! ### The other requests of the table (01 1.7) -/

/-- The record a request names; clip id 0 never has one (01 R1). -/
def State.named? (s : State) (id : Nat) : Option Clip := if id = 0 then none else s.clip? id

/-- The clip's state as a reply to its cancellation carries it (01 R30). -/
def State.clipStateOf (s : State) (id : Nat) : ClipState :=
  match s.clip? id with
  | some c => c.state
  | none => .cancelled

/-- A cancellation: CLOSING, and the terminal entry at once when nothing is in flight (01 R16, R30). -/
def State.cancel (s : State) (tag : Byte) (id : Nat) : State :=
  let s := (s.enterClosing id .cancelled .cancelledByRequest).endTest id
  s.reply .cancelClip tag (.cancelled id (s.clipStateOf id))

/-- CANCEL CLIP at the table (01 R30). -/
def State.takeCancel (s : State) (tag : Byte) (id : Nat) : State :=
  if s.isResetting then s.reply .cancelClip tag (.refused .resetting)
  else
    match s.named? id with
    | none => s.reply .cancelClip tag (.refused .noSuchClip)
    | some c =>
      if c.state.isOpen then s.event (fun s => s.cancel tag id)
      else s.reply .cancelClip tag (.refused .clipTerminal)

def execCancelClip (tag : Byte) (body : List Byte) (s : State) : Host.Outcome State Fault Refusal :=
  .next (s.request .cancelClip tag body decodeClipId (fun id s => s.takeCancel tag id))

/-- QUERY CLIP at the table (01 R31). -/
def State.takeQuery (s : State) (tag : Byte) (id : Nat) : State :=
  if s.isResetting then s.reply .queryClip tag (.refused .resetting)
  else
    match s.named? id with
    | none => s.reply .queryClip tag (.refused .noSuchClip)
    | some c => s.reply .queryClip tag (.query c)

def execQueryClip (tag : Byte) (body : List Byte) (s : State) : Host.Outcome State Fault Refusal :=
  .next (s.request .queryClip tag body decodeClipId (fun id s => s.takeQuery tag id))

/-- The result record of a clip (01 R29). -/
def Clip.result (c : Clip) : ResultRecord :=
  { clip := c.id, outcome := c.state, cause := c.cause, digest := c.digest, recheck := c.recheck,
    sourceUnstable := c.sourceUnstable, dests := c.dests }

/-- The clip at the head of the result list (01 R28). -/
def State.resultHead (s : State) : Option Clip :=
  match s.table.results with
  | id :: _ => s.clip? id
  | [] => none

/-- PEEK RESULT at the table (01 R32). -/
def State.takePeek (s : State) (tag : Byte) : State :=
  if s.isResetting then s.reply .peekResult tag (.refused .resetting)
  else
    match s.resultHead with
    | some c => s.reply .peekResult tag (.peeked s.table.results.length c.result)
    | none => s.reply .peekResult tag .noResult

def execPeekResult (tag : Byte) (body : List Byte) (s : State) : Host.Outcome State Fault Refusal :=
  .next (s.request .peekResult tag body decodeEmpty (fun _ s => s.takePeek tag))

/-- The head of the result list is taken: it leaves the list, its reservation and checks are released, and its record is
deleted (01 R33, 06 R142). -/
def State.releaseResult (s : State) (c : Clip) : State :=
  (s.modTable (fun t => { clips := t.clips.filter (fun x => x.id ≠ c.id), results := t.results.drop 1 })).modStore
    (fun st => st.releaseClip c.id c.chunkCount)

/-- TAKE RESULT at the table (01 R33). -/
def State.takeTake (s : State) (tag : Byte) (id : Nat) : State :=
  if s.isResetting then s.reply .takeResult tag (.refused .resetting)
  else
    match s.named? id with
    | none => s.reply .takeResult tag (.refused .noSuchClip)
    | some c =>
      if s.table.results.head? = some id then (s.releaseResult c).reply .takeResult tag (.taken c.result)
      else s.reply .takeResult tag (.refused .notFirst)

def execTakeResult (tag : Byte) (body : List Byte) (s : State) : Host.Outcome State Fault Refusal :=
  .next (s.request .takeResult tag body decodeClipId (fun id s => s.takeTake tag id))

/-- The recorded checks of a run of chunks, in chunk order (06 R146). -/
def State.recordedChecks (s : State) (clip first count : Nat) : List Check :=
  (List.range count).filterMap (fun i => s.store.lookup clip (first + i))

/-- READ CHECKS at the table (06 R146). -/
def State.takeReadChecks (s : State) (tag : Byte) (q : ChecksRequest) : State :=
  if s.isResetting then s.reply .readChecks tag (.refused .resetting)
  else
    match s.named? q.clip with
    | none => s.reply .readChecks tag (.refused .noSuchClip)
    | some c =>
      if q.count = 0 || decide (Config.maxChecks < q.count) then s.reply .readChecks tag (.refused .badValue)
      else if c.chunksRead < q.first + q.count then s.reply .readChecks tag (.notYetRead c.chunksRead)
      else s.reply .readChecks tag
        (.checks q.clip q.first q.count c.chunksRead c.chunkCount (s.recordedChecks q.clip q.first q.count))

def execReadChecks (tag : Byte) (body : List Byte) (s : State) : Host.Outcome State Fault Refusal :=
  .next (s.request .readChecks tag body decodeReadChecks (fun q s => s.takeReadChecks tag q))

/-! ### TERMINAL_ENTRY (01 R17) -/

/-- TERMINAL_ENTRY: the clip named, when it is due to become terminal, takes its terminal entry. The events that make a clip
due take it themselves (log 9). -/
def execTerminalEntry (id : Nat) (s : State) : Host.Outcome State Fault Refusal := .next (s.endTest id)

end Sys2Proof.Machine
end

