-- ==== Sys2Proof/Machine/PortRows.lean ====
section
/-! DEFINITION. The requests to ports: PORT SET, EJECT CARD, RELEASE DRIVE, RESTART PORT (02 2.7, 04 4.9), and the
pass-through requests (07 7.2). -/

namespace Sys2Proof.Machine

/-! ### PORT SET (02 R58) -/

def State.takePortSet (s : State) (tag : Byte) (q : PortSetRequest) : State :=
  if s.isResetting then s.reply .portSet tag (.refused .resetting)
  else if 7 < q.priority then s.reply .portSet tag (.refused .badValue)
  else
    (s.modArbiter (fun a =>
      { a with priority := a.priority.set q.card.val q.priority q.card.isLt,
               hold := a.hold.set q.card.val q.hold q.card.isLt })).reply .portSet tag .done

def execPortSet (tag : Byte) (body : List Byte) (s : State) : Host.Outcome State Fault Refusal :=
  .next (s.request .portSet tag body decodePortSet (fun q s => s.takePortSet tag q))

/-! ### EJECT CARD (02 R55) and RELEASE DRIVE (04 R106) -/

/-- The refusal of EJECT CARD: the first case that applies. -/
def State.ejectRefusal (s : State) (p : CardId) (generation : Nat) : Option Status :=
  let x := s.card p
  if s.isResetting then some .resetting
  else if x.presence ≠ .ready then some .cardNotReady
  else if generation ≠ x.generation then some .staleCard
  else if !x.clipQueue.isEmpty || !x.passList.isEmpty || x.op.isSome then some .portBusy
  else none

def State.takeEject (s : State) (tag : Byte) (p : CardId) (generation : Nat) : State :=
  match s.ejectRefusal p generation with
  | some st => s.reply .ejectCard tag (.refused st)
  | none =>
    (s.modCard p (fun x => { x with presence := .ejected, crel := true })).reply .ejectCard tag
      (.port (.card p) (s.card p).generation)

def execEjectCard (tag : Byte) (body : List Byte) (s : State) : Host.Outcome State Fault Refusal :=
  .next (s.request .ejectCard tag body decodeEject (fun q s => s.takeEject tag q.1 q.2))

/-- The refusal of RELEASE DRIVE: the first case that applies. -/
def State.releaseRefusal (s : State) (d : DriveId) (generation : Nat) : Option Status :=
  let x := s.drive d
  if s.isResetting then some .resetting
  else if x.presence ≠ .online then some .driveNotOnline
  else if generation ≠ x.generation then some .staleDrive
  else if !x.claims.isEmpty || !x.passList.isEmpty || x.op.isSome then some .portBusy
  else none

def State.takeRelease (s : State) (tag : Byte) (d : DriveId) (generation : Nat) : State :=
  match s.releaseRefusal d generation with
  | some st => s.reply .releaseDrive tag (.refused st)
  | none =>
    (s.modDrive d (fun x => { x with presence := .released, drel := true })).reply .releaseDrive tag
      (.port (.drive d) (s.drive d).generation)

def execReleaseDrive (tag : Byte) (body : List Byte) (s : State) : Host.Outcome State Fault Refusal :=
  .next (s.request .releaseDrive tag body decodeRelease (fun q s => s.takeRelease tag q.1 q.2))

/-! ### Entry to IDENTIFYING (02 R38, 04 R87) and RESTART PORT (02 R57, 04 R108) -/

/-- The card generations that clip records of a card port name (02 R38). -/
def State.cardGenerations (s : State) (p : CardId) : List Nat :=
  (s.table.clips.filter (fun c => c.card = p)).map Clip.generation

/-- The drive generations that destinations on a drive port name (04 R87). -/
def State.driveGenerations (s : State) (d : DriveId) : List Nat :=
  s.table.clips.flatMap (fun c => (c.dests.filter (fun x => x.drive = d)).map Destination.generation)

/-- A card port enters IDENTIFYING under a new generation, with the identification in flight and CREL not driven
(02 R38, R39, R57). -/
def State.identifyCard (s : State) (p : CardId) : State :=
  let g := freshGeneration (s.cardGenerations p) (Config.tableSize + 1) (s.card p).generation
  s.modCard p (fun x =>
    { x with presence := .identifying, settleTimer := false, generation := g, capacity := none, mediaId := none,
             op := some (CardOp.start (.identification none) remainderInit), crel := false })

/-- A drive port enters IDENTIFYING under a new generation, with the identification in flight and DREL not driven
(04 R87, R88, R108). -/
def State.identifyDrive (s : State) (d : DriveId) : State :=
  let g := freshGeneration (s.driveGenerations d) (Config.tableSize + 1) (s.drive d).generation
  s.modDrive d (fun x =>
    { x with presence := .identifying, settleTimer := false, generation := g, capacity := none, mediaId := none,
             op := some (DriveOp.start (.identification none)), drel := false })

def State.takeRestart (s : State) (tag : Byte) (p : PortId) : State :=
  if s.isResetting then s.reply .restartPort tag (.refused .resetting)
  else
    match p with
    | .card p =>
      match (s.card p).presence with
      | .faulted | .ejected =>
        let s := s.identifyCard p
        s.reply .restartPort tag (.port (.card p) (s.card p).generation)
      | .empty | .settling | .identifying | .ready => s.reply .restartPort tag (.refused .badState)
    | .drive d =>
      match (s.drive d).presence with
      | .faulted | .released =>
        -- the alternation restarts and the latch is clear (04 R111, R96)
        let s := (s.identifyDrive d).modDrive d (fun x => { x.restartRuns with latch := false })
        s.reply .restartPort tag (.port (.drive d) (s.drive d).generation)
      | .absent | .settling | .identifying | .online => s.reply .restartPort tag (.refused .badState)

def execRestartPort (tag : Byte) (body : List Byte) (s : State) : Host.Outcome State Fault Refusal :=
  .next (s.request .restartPort tag body decodeRestart (fun p s => s.takeRestart tag p))

/-! ### Pass-through requests (07 7.2) -/

/-- The count is 0 or above 64 (07 R149 to R151, check 2). -/
def badPassCount (count : Nat) : Bool := count = 0 || decide (Config.passThroughSectors < count)

/-- The record of an accepted request (07 7.1). -/
def PassRequest.record (q : PassRequest) (tag : Byte) (kind : PassKind) : PassRecord :=
  { tag := tag, kind := kind, generation := q.generation, first := q.first, count := q.count, data := q.data }

/-- The refusal of CARD READ: the first check that fails (07 R149). -/
def State.cardReadRefusal (s : State) (p : CardId) (q : PassRequest) : Option Status :=
  let x := s.card p
  if s.isResetting then some .resetting
  else if badPassCount q.count then some .badValue
  else if x.presence ≠ .ready then some .cardNotReady
  else if q.generation ≠ x.generation then some .staleCard
  else if beyond x.capacity q.first q.count then some .sourceRange
  else if Config.passThroughLimit ≤ x.passList.length then some .passThroughFull
  else none

def State.takeCardRead (s : State) (tag : Byte) (p : CardId) (q : PassRequest) : State :=
  match s.cardReadRefusal p q with
  | some st => s.reply .cardRead tag (.refused st)
  | none => s.modCard p (fun x => { x with passList := x.passList ++ [q.record tag .cardRead] })

def execCardRead (tag : Byte) (body : List Byte) (s : State) : Host.Outcome State Fault Refusal :=
  .next (s.request .cardRead tag body decodeCardRead (fun q s => s.takeCardRead tag q.1 q.2))

/-- The refusal of DRIVE READ: the first check that fails (07 R150). -/
def State.driveReadRefusal (s : State) (d : DriveId) (q : PassRequest) : Option Status :=
  let x := s.drive d
  if s.isResetting then some .resetting
  else if badPassCount q.count then some .badValue
  else if x.presence ≠ .online then some .driveNotOnline
  else if q.generation ≠ x.generation then some .staleDrive
  else if beyond x.capacity q.first q.count then some .targetRange
  else if Config.passThroughLimit ≤ x.passList.length then some .passThroughFull
  else none

def State.takeDriveRead (s : State) (tag : Byte) (d : DriveId) (q : PassRequest) : State :=
  match s.driveReadRefusal d q with
  | some st => s.reply .driveRead tag (.refused st)
  | none => s.modDrive d (fun x => { x with passList := x.passList ++ [q.record tag .driveRead] })

def execDriveRead (tag : Byte) (body : List Byte) (s : State) : Host.Outcome State Fault Refusal :=
  .next (s.request .driveRead tag body decodeDriveRead (fun q s => s.takeDriveRead tag q.1 q.2))

/-- The refusal of DRIVE WRITE: the first check that fails (07 R151). -/
def State.driveWriteRefusal (s : State) (d : DriveId) (q : PassRequest) : Option Status :=
  let x := s.drive d
  if s.isResetting then some .resetting
  else if badPassCount q.count || q.data.length ≠ Config.sectorBytes * q.count then some .badValue
  else if x.presence ≠ .online then some .driveNotOnline
  else if q.generation ≠ x.generation then some .staleDrive
  else if beyond x.capacity q.first q.count then some .targetRange
  else if x.claims.any (fun k => rangesOverlap q.first q.count k.first k.count) then some .claimed
  else if Config.passThroughLimit ≤ x.passList.length then some .passThroughFull
  else none

def State.takeDriveWrite (s : State) (tag : Byte) (d : DriveId) (q : PassRequest) : State :=
  match s.driveWriteRefusal d q with
  | some st => s.reply .driveWrite tag (.refused st)
  | none => s.modDrive d (fun x => { x with passList := x.passList ++ [q.record tag .driveWrite] })

def execDriveWrite (tag : Byte) (body : List Byte) (s : State) : Host.Outcome State Fault Refusal :=
  .next (s.request .driveWrite tag body decodeDriveWrite (fun q s => s.takeDriveWrite tag q.1 q.2))

end Sys2Proof.Machine
end

