-- ==== Sys2Proof/Machine/CardRows.lean ====
section
/-! DEFINITION. The events at a card port (02, 05, 07): its detect line and settle timer, the answers, errors and silence of
its card, and the endings of its operations. -/

namespace Sys2Proof.Machine

/-! ### Presence (02 2.1) -/

/-- CARD_DETECT_CHANGE: in EMPTY, a change to show a card starts the settle; in SETTLING every change starts it afresh (02 R36).
In the other states a change is a removal, another row. -/
def execCardDetectChange (p : CardId) (present : Bool) (s : State) : Host.Outcome State Fault Refusal :=
  .next (if present = (s.card p).detect then s
    else
      match (s.card p).presence with
      | .empty =>
        if present then s.modCard p (fun x => { x with detect := true, presence := .settling, settleTimer := true }) else s
      | .settling => s.modCard p (fun x => { x with detect := present, settleTimer := true })
      | .identifying | .ready | .ejected | .faulted => s)

/-- CARD_SETTLE_TIMER_EXPIRY: the line is read once (02 R37). -/
def execCardSettleTimerExpiry (p : CardId) (s : State) : Host.Outcome State Fault Refusal :=
  .next (if (s.card p).presence = .settling && (s.card p).settleTimer then
    if (s.card p).detect then s.identifyCard p
    else s.modCard p (fun x => { x with presence := .empty, settleTimer := false, capacity := none, mediaId := none })
  else s)

/-- The states in which a change to show no card is a removal (02 R41). -/
def CardPresence.holdsCard : CardPresence → Bool
  | .identifying | .ready | .ejected | .faulted => true
  | .empty | .settling => false

/-- The six steps of a card removal (02 R41). -/
def State.removeCard (s : State) (p : CardId) : State :=
  let owed := s.owedDests p
  let s := s.abandonCardOp p .sourceRemoved
  let s := s.modCard p (fun x =>
    { x with crel := false, detect := false, presence := .empty, capacity := none, mediaId := none })
  let s := s.raise (.card p (s.card p).generation .removed)
  let s := s.emptyCardLists p owed .sourceRemoved
  s.reportCardLoss p owed

/-- CARD_REMOVAL (02 R41). -/
def execCardRemoval (p : CardId) (s : State) : Host.Outcome State Fault Refusal :=
  .next (if (s.card p).presence.holdsCard then s.event (fun s => s.removeCard p) else s)

/-! ### Data of a command (02 R49, R50, R52, R54; 06 R135, R137) -/

/-- The data of a completed command is placed after the data before it, and enters the check and the remainder. A repair read
leaves the remainder; a recheck read advances the port's fresh remainder over the scratch buffer's bytes (05 R126). -/
def State.placeCardData (s : State) (p : CardId) (bytes : List Byte) : State :=
  match (s.card p).op with
  | none => s
  | some op =>
    let moved : CardOp := { op with filled := op.filled + bytes.length, check := checkAdvance op.check bytes }
    match op.task with
    | .copyRead _ _ slot =>
      (s.modSlot slot (fun x => { x with data := placeBytes x.data op.filled bytes })).modCard p
        (fun x => { x with op := some { moved with remainder := remainderAdvance op.remainder bytes } })
    | .repairRead _ _ _ slot =>
      (s.modSlot slot (fun x => { x with data := placeBytes x.data op.filled bytes })).modCard p
        (fun x => { x with op := some moved })
    | .recheckRead _ _ =>
      s.modCard p (fun x =>
        { x with op := some moved, scratch := placeBytes x.scratch op.filled bytes,
                 recheck := x.recheck.map (fun r => { r with fresh := remainderAdvance r.fresh bytes }) })
    | .identification _ => s
    | .passThrough _ => s

/-- What an answer brings: data to its place, or the card's geometry (02 R39). -/
def State.takeCardAnswer (s : State) (p : CardId) : Answer → State
  | .data bytes => s.placeCardData p bytes
  | .geometry sectorSize capacity =>
    s.modCard p (fun x =>
      { x with op := x.op.map (fun op =>
        match op.task with
        | .identification _ => { op with task := .identification (some { sectorSize := sectorSize, capacity := capacity }) }
        | .copyRead _ _ _ | .repairRead _ _ _ _ | .recheckRead _ _ | .passThrough _ => op) })
  | .success => s
  | .mediaId _ => s

/-- The next command of the operation is issued, at its first attempt (02 R45). -/
def CardOp.nextCommand (op : CardOp) : CardOp := { op with done := op.done + 1, retries := 0 }

/-- CARD_COMMAND_ANSWER: a command that is not its operation's last completes, and the next is issued (02 R45). -/
def execCardCommandAnswer (p : CardId) (a : Answer) (s : State) : Host.Outcome State Fault Refusal :=
  .next (if s.cardAnswers p a && !s.cardAtLast p then
    (s.takeCardAnswer p a).modCard p (fun x => { x with op := x.op.map CardOp.nextCommand })
  else s)

/-! ### Identification (02 R39) -/

/-- The medium can be used: sector size 512 and a capacity of at most 2^40 (02 R39, 04 R88). -/
def Geometry.supported (g : Geometry) : Bool := g.sectorSize = Config.sectorBytes && g.capacity ≤ Config.maxCapacity

/-- CARD_IDENTIFICATION: the media id answers the second command, and the port becomes READY, or FAULTED for a card that is
not supported (02 R39, R40). -/
def execCardIdentification (p : CardId) (id : MediaId) (s : State) : Host.Outcome State Fault Refusal :=
  .next (match (s.card p).op with
    | some { task := .identification (some g), done := _, retries := _, filled := _, check := _, remainder := _ } =>
      if s.cardAnswers p (.mediaId id) && s.cardAtLast p then
        s.event (fun s =>
          let s := s.modCard p (fun x =>
            { x with op := none, presence := if g.supported then .ready else .faulted,
                     capacity := some (min g.capacity Config.maxCapacity), mediaId := some id })
          s.raise (.card p (s.card p).generation (if g.supported then .ready else .faulted)))
      else s
    | _ => s)

/-- An identification fails: FAULTED, with capacity and media id absent (02 R39). -/
def State.failCardIdentification (s : State) (p : CardId) : State :=
  let s := s.modCard p (fun x => { x with op := none, presence := .faulted, capacity := none, mediaId := none })
  s.raise (.card p (s.card p).generation .faulted)

/-! ### Media errors and time-outs (02 R42, R45) -/

/-- What a failed operation leads to, after the retries of one command (01 R19; 02 R39, R51, R52; 05 R123, R128; 07 R154). -/
def State.failCardOp (s : State) (p : CardId) (op : CardOp) : State :=
  match op.task with
  | .identification _ => s.failCardIdentification p
  | .copyRead clip _ _ => ((s.dropCardOp p).enterClosing clip .failed .sourceReadError).endTest clip
  | .repairRead clip _ drive _ => ((s.dropCardOp p).loseDest clip drive .noSource).endTest clip
  | .recheckRead clip _ =>
    (((s.dropCardOp p).modCard p (fun x => { x with recheck := none })).applyRecheck clip .notDone).endTest clip
  | .passThrough r => (s.dropCardOp p).answerPass r (.mediaError (.card p) r.first r.count)

/-- CARD_MEDIA_ERROR: the command is issued again, at most three times after the first attempt, each counted as a read retry;
after that the operation fails (02 R45). -/
def execCardMediaError (p : CardId) (s : State) : Host.Outcome State Fault Refusal :=
  .next (match (s.card p).op with
    | some op =>
      if (s.cardCommand p).isSome then
        if op.retries < Config.cardRetries then
          (s.modCard p (fun x => { x with op := some { op with retries := op.retries + 1 } })).tally (readRetriesCounter p)
        else s.event (fun s => s.failCardOp p op)
      else s
    | none => s)

/-- A card timeout in READY (02 R42): as a removal, but the port enters FAULTED and keeps its capacity and media id. -/
def State.timeOutCard (s : State) (p : CardId) : State :=
  let owed := s.owedDests p
  let s := s.abandonCardOp p .timeout
  let s := s.modCard p (fun x => { x with presence := .faulted })
  let s := s.raise (.card p (s.card p).generation .faulted)
  let s := s.emptyCardLists p owed .portFaulted
  s.reportCardLoss p owed

/-- CARD_TIMEOUT: an attempt does not answer within 2,000 ms (02 R39 in IDENTIFYING, R42 in READY). -/
def execCardTimeout (p : CardId) (s : State) : Host.Outcome State Fault Refusal :=
  .next (if (s.cardCommand p).isSome then
    match (s.card p).presence with
    | .identifying => s.event (fun s => s.failCardIdentification p)
    | .ready => s.event (fun s => s.timeOutCard p)
    | .empty | .settling | .ejected | .faulted => s
  else s)

/-! ### The copy read (01 R10, R11; 02 R50) -/

/-- A chunk of a READING clip is staged: its slot HELD with one reference for each ACTIVE destination, one write-queue entry
each, chunks read and the remainder advanced (01 R11, 03 R64). -/
def State.stageChunk (s : State) (p : CardId) (c : Clip) (chunk : Nat) (slot : SlotId) (remainder : Digest) : State :=
  let s := s.modSlot slot (fun x => x.hold c.activeCount)
  let s := (c.dests.filter (fun x => x.state = .active)).foldl
    (fun s x => s.appendWrite x.drive { slot := slot, clip := c.id, chunk := chunk }) s
  let s := s.modClip c.id (fun c => { c with chunksRead := c.chunksRead + 1, remainder := remainder })
  s.tally (chunksReadCounter p)

/-- The clip leaves READING at its last chunk: the digest is written, and it enters RECHECKING or DRAINING (01 R10, 05 R125). -/
def State.leaveReading (s : State) (p : CardId) (c : Clip) (remainder : Digest) : State :=
  let s := s.modClip c.id (fun c => { c with digest := some (remainderFinish remainder) })
  match c.policy with
  | .readbackRecheck =>
    ((s.modClip c.id (fun c => { c with state := .rechecking })).modCard p
      (fun x => { x with recheck := some { clip := c.id, position := 0, fresh := remainderInit } })).promote c.card
  | .none | .readback => (s.modClip c.id (fun c => { c with state := .draining })).promote c.card

/-- The report of a completed copy read: the check is in the store before the table is told (02 R50, 06 R141); the table
stages the chunk of a READING clip and discards that of any other (01 R11). -/
def State.finishCopyRead (s : State) (p : CardId) (clip chunk : Nat) (slot : SlotId) (check : Check) (remainder : Digest) :
    State :=
  let s := s.modStore (fun st => st.record clip chunk (checkFinish check))
  let s := ((s.modCard p (fun x => { x with op := none })).endService p).lowerInFlight clip
  let s : State :=
    match s.clip? clip with
    | some c =>
      if c.state = .reading then
        let s := s.stageChunk p c chunk slot remainder
        if c.chunksRead + 1 = c.chunkCount then s.leaveReading p c remainder else s
      else s.modSlot slot Slot.release
    | none => s.modSlot slot Slot.release
  s.endTest clip

/-- COPY_READ: the last command of a copy read answers with its data (02 R50, 01 R11). -/
def execCopyRead (p : CardId) (data : List Byte) (s : State) : Host.Outcome State Fault Refusal :=
  .next (if s.cardAnswers p (.data data) && s.cardAtLast p then
    match (s.card p).op with
    | some { task := .copyRead clip chunk slot, done := _, retries := _, filled := _, check := check, remainder := remainder } =>
      s.event (fun s =>
        (s.placeCardData p data).finishCopyRead p clip chunk slot (checkAdvance check data) (remainderAdvance remainder data))
    | _ => s
  else s)

/-! ### The repair read (01 R21, R22; 05 R123) -/

/-- The report of a completed repair read, by the clip's and the destination's state (05 R123). -/
def State.finishRepairRead (s : State) (p : CardId) (clip chunk : Nat) (drive : DriveId) (slot : SlotId) (check : Check) :
    State :=
  let s := ((s.modCard p (fun x => { x with op := none })).endService p).lowerInFlight clip
  let s : State :=
    match s.clip? clip with
    | some c =>
      if c.state.isOpen then
        if s.store.lookup clip chunk = some (checkFinish check) then
          if c.activeOn drive then
            (s.modSlot slot (fun x => x.hold 1)).appendWrite drive { slot := slot, clip := clip, chunk := chunk }
          else s.modSlot slot Slot.release
        else
          ((s.modSlot slot Slot.release).modClip clip (fun c => { c with sourceUnstable := true })).enterClosing clip .failed
            .sourceUnstable
      else s.modSlot slot Slot.release
    | none => s.modSlot slot Slot.release
  s.endTest clip

/-- REPAIR_READ: the last command of a repair read answers with its data (05 R123). -/
def execRepairRead (p : CardId) (data : List Byte) (s : State) : Host.Outcome State Fault Refusal :=
  .next (if s.cardAnswers p (.data data) && s.cardAtLast p then
    match (s.card p).op with
    | some { task := .repairRead clip chunk drive slot, done := _, retries := _, filled := _, check := check, remainder := _ } =>
      s.event (fun s => (s.placeCardData p data).finishRepairRead p clip chunk drive slot (checkAdvance check data))
    | _ => s
  else s)

/-! ### The recheck read (01 R12; 05 R126, R127) -/

/-- The end of a completed recheck read: the position rises, and at the last chunk the finalised fresh remainder is compared
with the clip's digest (05 R127). A read whose clip has entered CLOSING ends the pass (05 R128). -/
def State.finishRecheckRead (s : State) (p : CardId) (clip : Nat) : State :=
  let s := (s.modCard p (fun x => { x with op := none })).lowerInFlight clip
  let s : State :=
    match s.clip? clip, (s.card p).recheck with
    | some c, some r =>
      if c.state = .rechecking then
        if r.position + 1 = c.chunkCount then
          (s.modCard p (fun x => { x with recheck := none })).applyRecheck clip
            (if c.digest = some (remainderFinish r.fresh) then .passed else .mismatch)
        else s.modCard p (fun x => { x with recheck := some { r with position := r.position + 1 } })
      else s.modCard p (fun x => { x with recheck := none })
    | _, _ => s.modCard p (fun x => { x with recheck := none })
  s.endTest clip

/-- RECHECK_READ: the last command of a recheck read answers with its data (05 R126). -/
def execRecheckRead (p : CardId) (data : List Byte) (s : State) : Host.Outcome State Fault Refusal :=
  .next (if s.cardAnswers p (.data data) && s.cardAtLast p then
    match (s.card p).op with
    | some { task := .recheckRead clip _, done := _, retries := _, filled := _, check := _, remainder := _ } =>
      s.event (fun s => (s.placeCardData p data).finishRecheckRead p clip)
    | _ => s
  else s)

/-! ### The pass-through read (07 R154) -/

/-- CARD_READ_COMPLETES: the reply OK carries the data as the card delivered it (07 R154). -/
def execCardReadCompletes (p : CardId) (data : List Byte) (s : State) : Host.Outcome State Fault Refusal :=
  .next (if s.cardAnswers p (.data data) && s.cardAtLast p then
    match (s.card p).op with
    | some { task := .passThrough r, done := _, retries := _, filled := _, check := _, remainder := _ } =>
      s.event (fun s =>
        (s.modCard p (fun x => { x with op := none })).answerPass r (.sectors (.card p) r.generation r.first r.count data))
    | _ => s
  else s)

end Sys2Proof.Machine
end

