-- ==== Sys2Proof/Machine/DriveRows.lean ====
section
/-! DEFINITION. The events at a drive port (04, 05, 07): its detect line and settle timer, the answers, errors and silence of
its drive, the take-up of chunk writes and verify reads, and the endings of its operations. -/

namespace Sys2Proof.Machine

/-! ### Presence (04 4.1) -/

/-- DRIVE_DETECT_CHANGE: in ABSENT, a change to show a drive starts the settle; in SETTLING every change starts it afresh
(04 R86). -/
def execDriveDetectChange (d : DriveId) (present : Bool) (s : State) : Host.Outcome State Fault Refusal :=
  .next (if present = (s.drive d).detect then s
    else
      match (s.drive d).presence with
      | .absent =>
        if present then s.modDrive d (fun x => { x with detect := true, presence := .settling, settleTimer := true }) else s
      | .settling => s.modDrive d (fun x => { x with detect := present, settleTimer := true })
      | .identifying | .online | .released | .faulted => s)

/-- DRIVE_SETTLE_TIMER_EXPIRY: the line is read once (04 R86). -/
def execDriveSettleTimerExpiry (d : DriveId) (s : State) : Host.Outcome State Fault Refusal :=
  .next (if (s.drive d).presence = .settling && (s.drive d).settleTimer then
    if (s.drive d).detect then s.identifyDrive d
    else s.modDrive d (fun x => { x with presence := .absent, settleTimer := false, capacity := none, mediaId := none })
  else s)

/-- The states in which a change to show no drive is a removal (04 R102). -/
def DrivePresence.holdsDrive : DrivePresence → Bool
  | .identifying | .online | .released | .faulted => true
  | .absent | .settling => false

/-- The six steps of a drive removal (04 R102). -/
def State.removeDrive (s : State) (d : DriveId) : State :=
  let s := s.abandonDriveOp d .driveRemoved
  let s := s.modDrive d (fun x =>
    { x with drel := false, detect := false, presence := .absent, capacity := none, mediaId := none })
  let s := s.raise (.drive d (s.drive d).generation .removed)
  let s := s.emptyDriveLists d .driveRemoved
  s.reportDriveLoss d .driveRemoved

/-- DRIVE_REMOVAL (04 R102). -/
def execDriveRemoval (d : DriveId) (s : State) : Host.Outcome State Fault Refusal :=
  .next (if (s.drive d).presence.holdsDrive then s.event (fun s => s.removeDrive d) else s)

/-! ### Answers (04 R90, 05 R113) -/

/-- What an answer brings: a verify read's data enters the check (05 R113), identification's geometry is kept (04 R88). -/
def DriveOp.takeAnswer (op : DriveOp) : Answer → DriveOp
  | .data bytes =>
    match op.task with
    | .verifyRead _ _ => { op with check := checkAdvance op.check bytes }
    | .identification _ | .chunkWrite _ | .passThrough _ => op
  | .geometry sectorSize capacity =>
    match op.task with
    | .identification _ => { op with task := .identification (some { sectorSize := sectorSize, capacity := capacity }) }
    | .chunkWrite _ | .verifyRead _ _ | .passThrough _ => op
  | .success => op
  | .mediaId _ => op

/-- The next command of the operation is issued, at its first attempt (04 R90). -/
def DriveOp.nextCommand (op : DriveOp) : DriveOp := { op with done := op.done + 1, retries := 0 }

/-- DRIVE_COMMAND_ANSWER: a command that is not its operation's last completes, and the next is issued (04 R90). -/
def execDriveCommandAnswer (d : DriveId) (a : Answer) (s : State) : Host.Outcome State Fault Refusal :=
  .next (if s.driveAnswers d a && !s.driveAtLast d then
    s.modDrive d (fun x => { x with op := x.op.map (fun op => (op.takeAnswer a).nextCommand) })
  else s)

/-- DRIVE_IDENTIFICATION: the media id answers the second command, and the port becomes ONLINE, or FAULTED for a drive that is
not supported (04 R88, R89). -/
def execDriveIdentification (d : DriveId) (id : MediaId) (s : State) : Host.Outcome State Fault Refusal :=
  .next (match (s.drive d).op with
    | some { task := .identification (some g), done := _, retries := _, check := _ } =>
      if s.driveAnswers d (.mediaId id) && s.driveAtLast d then
        s.event (fun s =>
          let s := s.modDrive d (fun x =>
            { x with op := none, presence := if g.supported then .online else .faulted,
                     capacity := some (min g.capacity Config.maxCapacity), mediaId := some id })
          s.raise (.drive d (s.drive d).generation (if g.supported then .online else .unsupported)))
      else s
    | _ => s)

/-- An identification fails: FAULTED, with capacity and media id absent (04 R88). -/
def State.failDriveIdentification (s : State) (d : DriveId) : State :=
  let s := s.modDrive d (fun x => { x with op := none, presence := .faulted, capacity := none, mediaId := none })
  s.raise (.drive d (s.drive d).generation .faulted)

/-! ### Faults, media errors and time-outs (04 R90, R103) -/

/-- A drive fault in ONLINE (04 R103): as a removal, but the port enters FAULTED and keeps its capacity and media id. -/
def State.faultDrive (s : State) (d : DriveId) : State :=
  let s := s.abandonDriveOp d .timeout
  let s := s.modDrive d (fun x => { x with presence := .faulted })
  let s := s.raise (.drive d (s.drive d).generation .faulted)
  let s := s.emptyDriveLists d .portFaulted
  s.reportDriveLoss d .driveFault

/-- What a failed command leads to, by its operation (04 R90). -/
def State.failDriveOp (s : State) (d : DriveId) (op : DriveOp) : State :=
  match op.task with
  | .identification _ => s.failDriveIdentification d
  | .chunkWrite _ => s.faultDrive d
  | .verifyRead _ _ => s.faultDrive d
  | .passThrough r => (s.dropDriveOp d).answerPass r (.mediaError (.drive d) r.first r.count)

/-- The command is a write, whose retries are counted (04 R90, 09 9.1). -/
def Command.isWrite : Command → Bool
  | .write _ _ => true
  | .geometry | .mediaId | .read _ => false

/-- DRIVE_MEDIA_ERROR: the command is issued again, at most two times after the first attempt, a write's retry counted; after
that the command has failed (04 R90). -/
def execDriveMediaError (d : DriveId) (s : State) : Host.Outcome State Fault Refusal :=
  .next (match (s.drive d).op, s.driveCommand d with
    | some op, some command =>
      if op.retries < Config.driveRetries then
        let s := s.modDrive d (fun x => { x with op := some { op with retries := op.retries + 1 } })
        if command.isWrite then s.tally (writeRetriesCounter d) else s
      else s.event (fun s => s.failDriveOp d op)
    | _, _ => s)

/-- DRIVE_TIMEOUT: an attempt does not answer within 8,000 ms (04 R88 in IDENTIFYING, R103 in ONLINE). -/
def execDriveTimeout (d : DriveId) (s : State) : Host.Outcome State Fault Refusal :=
  .next (if (s.driveCommand d).isSome then
    match (s.drive d).presence with
    | .identifying => s.event (fun s => s.failDriveIdentification d)
    | .online => s.event (fun s => s.faultDrive d)
    | .absent | .settling | .released | .faulted => s
  else s)

/-! ### Taking up chunk operations (04 R98, 05 R117) -/

/-- The port is at a free point whose pass-through list is empty (04 R98, 05 R117). -/
def DrivePort.atChunkPoint (x : DrivePort) : Bool := x.presence = .online && x.op.isNone && x.passList.isEmpty

/-- CHUNK_WRITE_TAKEN_UP: the alternation chooses the write of the write-queue head (05 R117, 04 R100). The entry stays on
the queue, and the clip's in-flight count rises (01 R15). -/
def execChunkWriteTakenUp (d : DriveId) (s : State) : Host.Outcome State Fault Refusal :=
  .next (if (s.drive d).atChunkPoint then
    match (s.drive d).alternate, (s.drive d).writeQueue with
    | (x, some .write), e :: _ =>
      (s.setDrive d { x with op := some (DriveOp.start (.chunkWrite e)) }).raiseInFlight e.clip
    | _, _ => s
  else s)

/-- VERIFY_READ_TAKEN_UP: the alternation chooses the verify read of the backlog head (05 R113, R117). -/
def execVerifyReadTakenUp (d : DriveId) (s : State) : Host.Outcome State Fault Refusal :=
  .next (if (s.drive d).atChunkPoint then
    match (s.drive d).alternate, (s.drive d).backlog with
    | (x, some .verify), e :: _ =>
      (s.setDrive d { x with op := some (DriveOp.start (.verifyRead e.clip e.chunk)) }).raiseInFlight e.clip
    | _, _ => s
  else s)

/-! ### COPIED destinations (01 R25) -/

/-- The test of R25 for one destination. -/
def Clip.copyTest (c : Clip) (d : DriveId) : Clip :=
  c.modDest d (fun x =>
    if x.state = .active && x.complete c.policy c.chunkCount then
      { x with state := .copied, verified := c.policy ≠ .none }
    else x)

/-! ### The chunk write (01 R23, 04 R101) -/

/-- The table applies a completed write of an ACTIVE destination (01 R23): chunks written rises for a COPY slot; then a backlog
entry, or under NONE the test of R25. -/
def State.applyWrite (s : State) (d : DriveId) (c : Clip) (chunk : Nat) (purpose : Purpose) : State :=
  let s := s.modClip c.id (fun c =>
    c.modDest d (fun x => { x with chunksWritten := if purpose = .copy then x.chunksWritten + 1 else x.chunksWritten }))
  match c.policy with
  | .none => s.modClip c.id (fun c => c.copyTest d)
  | .readback | .readbackRecheck => s.modDrive d (fun x => { x with backlog := x.backlog ++ [{ clip := c.id, chunk := chunk }] })

/-- A completed chunk write (04 R101). While its entry is on the queue the port reads the slot's purpose, removes the entry and
drops the reference; an entry already gone takes no reference, and the table discards the completion (03 R68). -/
def State.finishChunkWrite (s : State) (d : DriveId) (e : WriteEntry) : State :=
  let queued := (s.drive d).writeQueue.contains e
  let purpose := if queued then (s.slot e.slot).purpose else none
  let s := s.modDrive d (fun x => { x with op := none })
  let s : State :=
    if queued then
      (s.modDrive d (fun x => { x with writeQueue := x.writeQueue.erase e })).modSlot e.slot Slot.dropRef
    else s
  let s := (s.lowerInFlight e.clip).tally (chunksWrittenCounter d)
  let s : State :=
    match s.clip? e.clip, purpose with
    | some c, some purpose => if c.state.isOpen && c.activeOn d then s.applyWrite d c e.chunk purpose else s
    | _, _ => s
  s.endTest e.clip

/-- CHUNK_WRITE: the last sub-write answers with success (04 R101). -/
def execChunkWrite (d : DriveId) (s : State) : Host.Outcome State Fault Refusal :=
  .next (if s.driveAnswers d .success && s.driveAtLast d then
    match (s.drive d).op with
    | some { task := .chunkWrite e, done := _, retries := _, check := _ } => s.event (fun s => s.finishChunkWrite d e)
    | _ => s
  else s)

/-! ### The verify read (01 R25; 05 R114, R115, R120) -/

/-- A verify match of an ACTIVE destination (01 R25). -/
def State.applyMatch (s : State) (d : DriveId) (c : Clip) : State :=
  s.modClip c.id (fun c => (c.modDest d (fun x => { x with chunksVerified := x.chunksVerified + 1 })).copyTest d)

/-- A verify mismatch of an ACTIVE destination: the first case that holds (05 R120). -/
def State.applyMismatch (s : State) (d : DriveId) (c : Clip) (chunk : Nat) : State :=
  if (c.destOn d).any (fun x => Config.repairLimit ≤ x.repairsUsed) then s.loseDest c.id d .verifyFailed
  else if !s.sourcePresent c then s.loseDest c.id d .noSource
  else if Config.repairListLimit ≤ (s.card c.card).repairs.length then s.loseDest c.id d .repairOverflow
  else
    (s.modClip c.id (fun c => c.modDest d (fun x => { x with repairsUsed := x.repairsUsed + 1 }))).modCard c.card
      (fun x => { x with repairs := x.repairs ++ [{ clip := c.id, chunk := chunk, drive := d }] })

/-- A completed verify read (05 R114): the check is compared with the stored one, the entry leaves the backlog, and the table
applies the match or mismatch to an ACTIVE destination of a clip outside CLOSING (R115). -/
def State.finishVerifyRead (s : State) (d : DriveId) (clip chunk : Nat) (check : Check) : State :=
  let matched := decide (s.store.lookup clip chunk = some (checkFinish check))
  let s := s.modDrive d (fun x => { x with op := none, backlog := x.backlog.erase { clip := clip, chunk := chunk } })
  let s := s.lowerInFlight clip
  let s := if matched then s else s.tally (mismatchesCounter d)
  let s : State :=
    match s.clip? clip with
    | some c =>
      if c.state.isOpen && c.activeOn d then
        if matched then s.applyMatch d c else s.applyMismatch d c chunk
      else s
    | none => s
  s.endTest clip

/-- VERIFY_READ: the last sub-read answers with its data (05 R114). -/
def execVerifyRead (d : DriveId) (data : List Byte) (s : State) : Host.Outcome State Fault Refusal :=
  .next (if s.driveAnswers d (.data data) && s.driveAtLast d then
    match (s.drive d).op with
    | some { task := .verifyRead clip chunk, done := _, retries := _, check := check } =>
      s.event (fun s => s.finishVerifyRead d clip chunk (checkAdvance check data))
    | _ => s
  else s)

/-! ### Pass-through operations (07 R155, R156) -/

/-- DRIVE_READ_COMPLETES: the reply OK carries the data as the drive delivered it (07 R155). -/
def execDriveReadCompletes (d : DriveId) (data : List Byte) (s : State) : Host.Outcome State Fault Refusal :=
  .next (if s.driveAnswers d (.data data) && s.driveAtLast d then
    match (s.drive d).op with
    | some { task := .passThrough r, done := _, retries := _, check := _ } =>
      s.event (fun s =>
        (s.modDrive d (fun x => { x with op := none })).answerPass r (.sectors (.drive d) r.generation r.first r.count data))
    | _ => s
  else s)

/-- DRIVE_WRITE_COMPLETES (07 R156). -/
def execDriveWriteCompletes (d : DriveId) (s : State) : Host.Outcome State Fault Refusal :=
  .next (if s.driveAnswers d .success && s.driveAtLast d then
    match (s.drive d).op with
    | some { task := .passThrough r, done := _, retries := _, check := _ } =>
      s.event (fun s =>
        (s.modDrive d (fun x => { x with op := none })).answerPass r (.written (.drive d) r.first r.count))
    | _ => s
  else s)

end Sys2Proof.Machine
end

