-- ==== Sys2Proof/Machine/ArbiterRows.lean ====
section
/-! DEFINITION. The Source Arbiter's grants (03 3.2) and the take-ups that need no grant: recheck reads (05 R126) and
pass-through operations (07 R153). -/

namespace Sys2Proof.Machine

/-- The card port is READY with no operation in flight and nothing on its pass-through list, which goes first (02 R46; log 18). -/
def CardPort.atChunkPoint (x : CardPort) : Bool := x.presence = .ready && x.op.isNone && x.passList.isEmpty

/-- Some ACTIVE destination of the clip has its drive port's latch set (03 R73). -/
def State.latched (s : State) (c : Clip) : Bool := c.dests.any (fun x => x.state = .active && (s.drive x.drive).latch)

/-- The card port holds a repair request: its repair list's head has room at its drive (03 R74). -/
def State.repairRequest (s : State) (p : CardId) : Bool :=
  !s.isResetting && (s.card p).atChunkPoint &&
    match (s.card p).repairs with
    | e :: _ => (s.drive e.drive).writeQueue.length < Config.repairRoom
    | [] => false

/-- The card port holds a copy request (03 R73). -/
def State.copyRequest (s : State) (p : CardId) : Bool :=
  !s.isResetting && (s.card p).atChunkPoint && !s.arbiter.hold.get p &&
    match s.readingClip? p with
    | some c => c.chunksRead < c.chunkCount && !s.latched c
    | none => false

/-- A card port's priority number. -/
def State.priorityOf (s : State) (p : CardId) : Nat := s.arbiter.priority.get p

/-- The card ports in the order the arbiter looks at them: from the port after the round-robin position, CP7 to CP0 (03 R78). -/
def turnOrder (position : CardId) : List CardId := allCards.map (fun k => position + 1 + k)

/-- The copy request chosen: the lowest priority number, and the first of those in turn order (03 R78). -/
def State.copyWinner (s : State) : Option CardId :=
  (turnOrder s.arbiter.roundRobin).find? (fun p =>
    s.copyRequest p && allCards.all (fun q => !s.copyRequest q || decide (s.priorityOf p ≤ s.priorityOf q)))

/-- The copy request granted: the winner, unless the free count is at or below the reserve mark and the winner's priority number
is above the ceiling (03 R79). -/
def State.copyGrant (s : State) : Option CardId :=
  match s.copyWinner with
  | some p =>
    if s.freeCount ≤ s.arbiter.reserveMark && decide (s.arbiter.ceiling < s.priorityOf p) then none else some p
  | none => none

/-- The arbiter's decision: a repair request wins over every copy request, the lowest-numbered port first (03 R77). -/
def State.decision (s : State) : Option (CardId × Purpose) :=
  match allCards.find? s.repairRequest with
  | some p => some (p, .repair)
  | none => s.copyGrant.map (fun p => (p, .copy))

/-- The granted slot: FILLING, for its owner and purpose; its bytes stay until the read places its own (03 R63). -/
def Slot.grant (x : Slot) (owner : Owner) (purpose : Purpose) : Slot :=
  { x with state := .filling, owner := some owner, purpose := some purpose, refs := 0 }

/-- The port joins the in-service set with its grant's purpose (03 R75). -/
def State.beginService (s : State) (p : CardId) (purpose : Purpose) : State :=
  s.modArbiter (fun a => { a with inService := a.inService.set p.val (some purpose) p.isLt })

/-- A COPY grant: the read of the READING clip's next chunk is taken up, from its stored remainder (03 R63, 02 R49, 06 R137). -/
def State.grantCopy (s : State) (p : CardId) (slot : SlotId) : State :=
  match s.readingClip? p with
  | none => s
  | some c =>
    let s := s.modSlot slot (fun x => x.grant { clip := c.id, chunk := c.chunksRead } .copy)
    let s := (s.beginService p .copy).modArbiter (fun a => { a with roundRobin := p })
    let s := s.modCard p (fun x => { x with op := some (CardOp.start (.copyRead c.id c.chunksRead slot) c.remainder) })
    s.raiseInFlight c.id

/-- A REPAIR grant: the head of the repair list is removed and its read taken up (03 R63, 02 R46, R52). -/
def State.grantRepair (s : State) (p : CardId) (slot : SlotId) : State :=
  match (s.card p).repairs with
  | [] => s
  | e :: rest =>
    let s := s.modSlot slot (fun x => x.grant { clip := e.clip, chunk := e.chunk } .repair)
    let s := s.beginService p .repair
    let s := s.modCard p (fun x =>
      { x with repairs := rest, op := some (CardOp.start (.repairRead e.clip e.chunk e.drive slot) remainderInit) })
    s.raiseInFlight e.clip

/-- GRANT: one decision of the arbiter, and the granted read taken up (03 R76). With no FREE slot or no request that may be
granted there is no grant. -/
def execGrant (s : State) : Host.Outcome State Fault Refusal :=
  .next (match s.decision, s.lowestFreeSlot with
    | some (p, .repair), some slot => State.observe s (s.grantRepair p slot)
    | some (p, .copy), some slot => State.observe s (s.grantCopy p slot)
    | _, _ => s)

/-- RECHECK_READ_TAKEN_UP: the RECHECKING clip's next chunk is taken up into the scratch buffer (05 R126, 02 R46, R54). -/
def execRecheckReadTakenUp (p : CardId) (s : State) : Host.Outcome State Fault Refusal :=
  .next (if (s.card p).atChunkPoint then
    match (s.card p).recheck with
    | some r =>
      if (s.clip? r.clip).any (fun c => c.state = .rechecking && r.position < c.chunkCount) then
        (s.modCard p (fun x => { x with op := some (CardOp.start (.recheckRead r.clip r.position) r.fresh) })).raiseInFlight
          r.clip
      else s
    | none => s
  else s)

/-- PASS_THROUGH_TAKEN_UP: a port at a free point removes the head of its list and takes it up (07 R153). -/
def execPassThroughTakenUp (p : PortId) (s : State) : Host.Outcome State Fault Refusal :=
  .next (match p with
    | .card p =>
      match (s.card p).passList with
      | r :: rest =>
        if (s.card p).presence = .ready && (s.card p).op.isNone then
          s.modCard p (fun x => { x with passList := rest, op := some (CardOp.start (.passThrough r) remainderInit) })
        else s
      | [] => s
    | .drive d =>
      match (s.drive d).passList with
      | r :: rest =>
        if (s.drive d).presence = .online && (s.drive d).op.isNone then
          s.modDrive d (fun x => { x with passList := rest, op := some (DriveOp.start (.passThrough r)) })
        else s
      | [] => s)

end Sys2Proof.Machine
end

