-- ==== Sys2Proof/Machine/ResetRows.lean ====
section
/-! DEFINITION. The Summary Unit's rows (09) and the resets: POWER_ON_RESET, ENGINE_RESET and ENGINE_LEAVES_RESETTING
(08 8.7, 8.8). -/

namespace Sys2Proof.Machine

/-! ### The Summary Unit (09) -/

/-- The interval figures restart: counts 0, watermarks at the present values (09 R181). -/
def State.restartFigures (s : State) : State :=
  let n (d : DriveId) : Nat := (s.drive d).writeQueue.length
  s.modSummary (fun m =>
    { m with counts := Vector.replicate Config.counterCount 0, lowestFree := s.freeCount,
             highestQueue := #v[n 0, n 1, n 2, n 3] })

/-- The figures of the interval that has just ended (09 R180). -/
def State.figures (s : State) : SummaryFigures :=
  let m := s.summary
  { sequence := m.sequence, length := m.timer,
    cards := allCards.map (fun p =>
      { chunksRead := m.counts.get (chunksReadCounter p), readRetries := bandOf (m.counts.get (readRetriesCounter p)) }),
    drives := allDrives.map (fun d =>
      { chunksWritten := m.counts.get (chunksWrittenCounter d), writeRetries := bandOf (m.counts.get (writeRetriesCounter d)),
        mismatches := bandOf (m.counts.get (mismatchesCounter d)), peakQueue := m.highestQueue.get d }),
    free := s.freeCount, lowestFree := m.lowestFree, framesDiscarded := m.counts.get framesCounter }

/-- INTERVAL_TIMER_EXPIRY: SUMMARY is raised, the sequence advances modulo 4, the figures restart, and the timer starts at the
setting in force (09 R179). -/
def execIntervalTimerExpiry (s : State) : Host.Outcome State Fault Refusal :=
  .next ((s.raise (.summary s.figures)).restartFigures.modSummary
    (fun m => { m with sequence := (m.sequence + 1) % 4, timer := m.interval }))

/-- Every cumulative counter is 0 with its flag clear (09 R183). -/
def State.clearCumulative (s : State) : State :=
  s.modSummary (fun m => { m with cumulative := Vector.replicate Config.counterCount Counter.zero })

/-- CLEAR COUNTERS at the Summary Unit (09 R183). -/
def State.takeClear (s : State) (tag : Byte) : State :=
  if s.isResetting then s.reply .clearCounters tag (.refused .resetting)
  else s.clearCumulative.reply .clearCounters tag .done

def execClearCounters (tag : Byte) (body : List Byte) (s : State) : Host.Outcome State Fault Refusal :=
  .next (s.request .clearCounters tag body decodeEmpty (fun _ s => s.takeClear tag))

/-! ### ENGINE RESET (08 R174; 01 R35, 02 R60, 03 R83, 04 R110, 07 R158, 09 R184) -/

/-- The Link Interface's part: RESETTING, the notice queue emptied, the lost count 0 (08 R174). -/
def Link.beginReset (l : Link) (tag : Byte) : Link :=
  { l with engine := .resetting, notices := [], lost := 0, resetTag := some tag }

/-- The table's part: every clip outside CLOSING that is not terminal enters CLOSING, and those with nothing in flight end
(01 R35). -/
def State.closeAll (s : State) : State :=
  ((s.table.clips.map Clip.id).foldl (fun s id => s.enterClosing id .cancelled .engineReset) s).endTestAll

/-- A card port's part: repair list emptied, pass-through list answered ABORTED (02 R60, 07 R158). -/
def State.abortCard (s : State) (p : CardId) : State :=
  let waiting := (s.card p).passList
  (s.modCard p (fun x => { x with repairs := [], passList := [] })).answerList .aborted waiting

/-- A drive port's part: pass-through list answered ABORTED (04 R110, 07 R158). -/
def State.abortDrive (s : State) (d : DriveId) : State :=
  let waiting := (s.drive d).passList
  (s.modDrive d (fun x => { x with passList := [] })).answerList .aborted waiting

/-- The arbiter's part: holds cleared, the round-robin position at CP7 (03 R83). -/
def Arbiter.beginReset (a : Arbiter) : Arbiter := { a with hold := Vector.replicate 8 false, roundRobin := 7 }

/-- The Summary Unit's part: counters, flags, counts and sequence cleared, watermarks restarted, the timer started afresh
(09 R184). -/
def State.resetSummary (s : State) : State :=
  s.clearCumulative.restartFigures.modSummary (fun m => { m with sequence := 0, timer := m.interval })

/-- An accepted ENGINE RESET, block after block: the link first (08 R174), the Summary Unit last (log 12). -/
def State.beginReset (s : State) (tag : Byte) : State :=
  let s := s.modLink (fun l => l.beginReset tag)
  let s := s.closeAll
  let s := s.modArbiter Arbiter.beginReset
  let s := allCards.foldl State.abortCard s
  let s := allDrives.foldl State.abortDrive s
  s.resetSummary

/-- ENGINE RESET at the Link Interface (08 R174). Its OK is formed when the engine leaves RESETTING (R175), which is this very
event when every port is quiet. -/
def State.takeEngineReset (s : State) (tag : Byte) : State :=
  if s.isResetting then s.reply .engineReset tag (.refused .resetting)
  else s.event (fun s => s.beginReset tag)

def execEngineReset (tag : Byte) (body : List Byte) (s : State) : Host.Outcome State Fault Refusal :=
  .next (s.request .engineReset tag body decodeEmpty (fun _ s => s.takeEngineReset tag))

/-- ENGINE_LEAVES_RESETTING: when no port has a media operation in flight (08 R175). The event that ends the last operation
does it itself (log 9). -/
def execEngineLeavesResetting (s : State) : Host.Outcome State Fault Refusal := .next s.leaveIfQuiet

/-! ### POWER_ON_RESET (01 R34, 02 R59, 03 R84, 04 R109, 05 R131, 06 R145, 07 R159, 08 R176, 09 R184) -/

/-- The line rate the straps LRATE1 LRATE0 select (00 pins, 08 R161): 11 is read as 12 Mbit/s. -/
def lineRateOf (straps : BitVec 2) : LineRate :=
  if straps = 0 then .mbit3 else if straps = 1 then .mbit6 else .mbit12

/-- A card port whose detect line shows a card at the end of the reset enters SETTLING at once (02 R59). -/
def CardPort.powerUp (x : CardPort) (present : Bool) : CardPort :=
  { x with detect := present, presence := if present then .settling else .empty, settleTimer := present }

/-- A drive port whose detect line shows a drive at the end of the reset enters SETTLING at once (04 R109). -/
def DrivePort.powerUp (x : DrivePort) (present : Bool) : DrivePort :=
  { x with detect := present, presence := if present then .settling else .absent, settleTimer := present }

/-- Every block at its power-on values, with the line rate from the straps and the ports as their detect lines show. The
queue of commands and the number of free values used are the model's own and are kept. -/
def State.powerOn (s : State) (straps : BitVec 2) (cards : BitVec 8) (drives : BitVec 4) : State :=
  let t : State := { State.reset with pending := s.pending, freeValues := s.freeValues,
                                      link := { Link.reset with lineRate := lineRateOf straps } }
  let t := allCards.foldl (fun t p => t.modCard p (fun x => x.powerUp (cards.getLsbD p.val))) t
  allDrives.foldl (fun t d => t.modDrive d (fun x => x.powerUp (drives.getLsbD d.val))) t

def execPowerOnReset (straps : BitVec 2) (cards : BitVec 8) (drives : BitVec 4) (s : State) :
    Host.Outcome State Fault Refusal :=
  .next (s.powerOn straps cards drives)

end Sys2Proof.Machine
end

