-- ==== Sys2Proof/Machine/Dispatch.lean ====
section
/-! DEFINITION. The dispatch: one arm for each command, each one direct call of its meaning. -/

namespace Sys2Proof.Machine

def exec (i : Instr) (s : State) : Host.Outcome State Fault Refusal :=
  match i with
  | .powerOnReset straps cards drives => Sys2Proof.Machine.execPowerOnReset straps cards drives s
  | .hello tag body => Sys2Proof.Machine.execHello tag body s
  | .status tag body => Sys2Proof.Machine.execStatus tag body s
  | .configure tag body => Sys2Proof.Machine.execConfigure tag body s
  | .portSet tag body => Sys2Proof.Machine.execPortSet tag body s
  | .admitClip tag body => Sys2Proof.Machine.execAdmitClip tag body s
  | .cancelClip tag body => Sys2Proof.Machine.execCancelClip tag body s
  | .queryClip tag body => Sys2Proof.Machine.execQueryClip tag body s
  | .peekResult tag body => Sys2Proof.Machine.execPeekResult tag body s
  | .takeResult tag body => Sys2Proof.Machine.execTakeResult tag body s
  | .readChecks tag body => Sys2Proof.Machine.execReadChecks tag body s
  | .ejectCard tag body => Sys2Proof.Machine.execEjectCard tag body s
  | .releaseDrive tag body => Sys2Proof.Machine.execReleaseDrive tag body s
  | .restartPort tag body => Sys2Proof.Machine.execRestartPort tag body s
  | .cardRead tag body => Sys2Proof.Machine.execCardRead tag body s
  | .driveRead tag body => Sys2Proof.Machine.execDriveRead tag body s
  | .driveWrite tag body => Sys2Proof.Machine.execDriveWrite tag body s
  | .clearCounters tag body => Sys2Proof.Machine.execClearCounters tag body s
  | .engineReset tag body => Sys2Proof.Machine.execEngineReset tag body s
  | .engineLeavesResetting => Sys2Proof.Machine.execEngineLeavesResetting s
  | .frameDiscard b => Sys2Proof.Machine.execFrameDiscard b s
  | .gapTimerExpiry => Sys2Proof.Machine.execGapTimerExpiry s
  | .transmitterTakesFrame => Sys2Proof.Machine.execTransmitterTakesFrame s
  | .endOfSending => Sys2Proof.Machine.execEndOfSending s
  | .cardDetectChange p present => Sys2Proof.Machine.execCardDetectChange p present s
  | .cardSettleTimerExpiry p => Sys2Proof.Machine.execCardSettleTimerExpiry p s
  | .cardRemoval p => Sys2Proof.Machine.execCardRemoval p s
  | .cardCommandAnswer p a => Sys2Proof.Machine.execCardCommandAnswer p a s
  | .cardMediaError p => Sys2Proof.Machine.execCardMediaError p s
  | .cardTimeout p => Sys2Proof.Machine.execCardTimeout p s
  | .cardIdentification p id => Sys2Proof.Machine.execCardIdentification p id s
  | .copyRead p data => Sys2Proof.Machine.execCopyRead p data s
  | .repairRead p data => Sys2Proof.Machine.execRepairRead p data s
  | .recheckRead p data => Sys2Proof.Machine.execRecheckRead p data s
  | .cardReadCompletes p data => Sys2Proof.Machine.execCardReadCompletes p data s
  | .grant => Sys2Proof.Machine.execGrant s
  | .recheckReadTakenUp p => Sys2Proof.Machine.execRecheckReadTakenUp p s
  | .passThroughTakenUp p => Sys2Proof.Machine.execPassThroughTakenUp p s
  | .driveDetectChange d present => Sys2Proof.Machine.execDriveDetectChange d present s
  | .driveSettleTimerExpiry d => Sys2Proof.Machine.execDriveSettleTimerExpiry d s
  | .driveRemoval d => Sys2Proof.Machine.execDriveRemoval d s
  | .driveCommandAnswer d a => Sys2Proof.Machine.execDriveCommandAnswer d a s
  | .driveMediaError d => Sys2Proof.Machine.execDriveMediaError d s
  | .driveTimeout d => Sys2Proof.Machine.execDriveTimeout d s
  | .driveIdentification d id => Sys2Proof.Machine.execDriveIdentification d id s
  | .chunkWriteTakenUp d => Sys2Proof.Machine.execChunkWriteTakenUp d s
  | .verifyReadTakenUp d => Sys2Proof.Machine.execVerifyReadTakenUp d s
  | .chunkWrite d => Sys2Proof.Machine.execChunkWrite d s
  | .verifyRead d data => Sys2Proof.Machine.execVerifyRead d data s
  | .driveReadCompletes d data => Sys2Proof.Machine.execDriveReadCompletes d data s
  | .driveWriteCompletes d => Sys2Proof.Machine.execDriveWriteCompletes d s
  | .intervalTimerExpiry => Sys2Proof.Machine.execIntervalTimerExpiry s
  | .terminalEntry clip => Sys2Proof.Machine.execTerminalEntry clip s
  | .byteReceived b => Sys2Proof.Machine.execByteReceived b s

end Sys2Proof.Machine
end

