-- ==== Sys2Proof/Safety.lean ====
section
/-! DEFINITION. The terms claims use: what it means that an event leaves a part as it was, and the invariants of the machine.
No meaning uses these. -/

namespace Sys2Proof.Machine

/-! ### Requests -/

/-- A request's frame is completed now and passes the link check (08 R165). -/
structure Takes (s : State) (kind : RequestKind) (tag : Byte) (body : List Byte) : Prop where
  completes : s.link.receiver.completes (requestContent kind tag body) = true
  accepted : s.link.check tag = .accepted

/-- The link after an accepted request that is answered at once: the receiver hunts with its timer stopped, the tag is
outstanding, and the reply is the last of the reply store. -/
def Link.answered (l : Link) (kind : RequestKind) (tag : Byte) (body : ReplyBody) : Link :=
  { l with receiver := .hunt, gapTimer := false, outstanding := l.outstanding ++ [tag],
           replies := l.replies ++ [{ kind := kind, tag := tag, body := body, linkRefusal := false }] }

/-- The state after an accepted request that is answered at once and changes nothing outside the link. -/
def State.answered (s : State) (kind : RequestKind) (tag : Byte) (body : ReplyBody) : State :=
  { s with link := s.link.answered kind tag body }

/-! ### Frames of the parts -/

/-- The link has formed replies (none a link refusal) and raised notices, and is otherwise as it was. -/
def LinkTalks (l l' : Link) : Prop :=
  ∃ (rs : List Reply) (ns : List Notice), (∀ r ∈ rs, r.linkRefusal = false) ∧
    l' = ns.foldl Link.raise { l with replies := l.replies ++ rs }

/-- A card port as the Offload Table leaves it: only entries of its clip queue and repair list have left, and its recheck
state may have been cleared. -/
structure CardKept (x y : CardPort) : Prop where
  presence : y.presence = x.presence
  detect : y.detect = x.detect
  settleTimer : y.settleTimer = x.settleTimer
  generation : y.generation = x.generation
  capacity : y.capacity = x.capacity
  mediaId : y.mediaId = x.mediaId
  passList : y.passList = x.passList
  scratch : y.scratch = x.scratch
  op : y.op = x.op
  crel : y.crel = x.crel
  clipQueue : y.clipQueue.Sublist x.clipQueue
  repairs : y.repairs.Sublist x.repairs
  recheck : y.recheck = x.recheck ∨ y.recheck = none

/-- A drive port as the Offload Table leaves it: only claims and entries of its write queue and backlog have left. -/
structure DriveKept (x y : DrivePort) : Prop where
  presence : y.presence = x.presence
  detect : y.detect = x.detect
  settleTimer : y.settleTimer = x.settleTimer
  generation : y.generation = x.generation
  capacity : y.capacity = x.capacity
  mediaId : y.mediaId = x.mediaId
  latch : y.latch = x.latch
  lowMark : y.lowMark = x.lowMark
  highMark : y.highMark = x.highMark
  writeRun : y.writeRun = x.writeRun
  verifyRun : y.verifyRun = x.verifyRun
  phase : y.phase = x.phase
  runCount : y.runCount = x.runCount
  passList : y.passList = x.passList
  op : y.op = x.op
  drel : y.drel = x.drel
  claims : y.claims.Sublist x.claims
  writeQueue : y.writeQueue.Sublist x.writeQueue
  backlog : y.backlog.Sublist x.backlog

/-- A slot that has given up some references and is otherwise as it was. -/
def SlotKept (x y : Slot) : Prop := ∃ n : Nat, y = Slot.dropRef^[n] x

/-- A clip record with the fields that are fixed at admission (01 1.1), and those that only reports of media operations
change, as they were. -/
structure ClipKept (c c' : Clip) : Prop where
  id : c'.id = c.id
  card : c'.card = c.card
  generation : c'.generation = c.generation
  extents : c'.extents = c.extents
  streamLength : c'.streamLength = c.streamLength
  chunkCount : c'.chunkCount = c.chunkCount
  policy : c'.policy = c.policy
  required : c'.required = c.required
  chunksRead : c'.chunksRead = c.chunksRead
  remainder : c'.remainder = c.remainder
  digest : c'.digest = c.digest
  sourceUnstable : c'.sourceUnstable = c.sourceUnstable
  inFlight : c'.inFlight = c.inFlight

/-- What the Offload Table can change when it applies a report (01): states, causes and rechecks of clip records, the result
list's tail, notices and replies, references of slots, and entries that leave the ports' lists. -/
structure TableReach (s t : State) : Prop where
  pending : t.pending = s.pending
  store : t.store = s.store
  arbiter : t.arbiter = s.arbiter
  summary : t.summary = s.summary
  freeValues : t.freeValues = s.freeValues
  link : LinkTalks s.link t.link
  clips : List.Forall₂ ClipKept s.table.clips t.table.clips
  results : s.table.results <+: t.table.results
  slots : ∀ i, SlotKept (s.slot i) (t.slot i)
  cards : ∀ p, CardKept (s.card p) (t.card p)
  drives : ∀ d, DriveKept (s.drive d) (t.drive d)

/-! ### Requests as a family -/

/-- The command that is the request of a kind. -/
def requestInstr : RequestKind → Byte → List Byte → Instr
  | .hello => .hello | .status => .status | .configure => .configure | .portSet => .portSet | .admitClip => .admitClip
  | .cancelClip => .cancelClip | .queryClip => .queryClip | .peekResult => .peekResult | .takeResult => .takeResult
  | .readChecks => .readChecks | .ejectCard => .ejectCard | .releaseDrive => .releaseDrive | .restartPort => .restartPort
  | .cardRead => .cardRead | .driveRead => .driveRead | .driveWrite => .driveWrite | .clearCounters => .clearCounters
  | .engineReset => .engineReset

/-- The body is decoded by the layout of its kind (08 R167). -/
def decodes : RequestKind → List Byte → Bool
  | .hello, b => (decodeEmpty b).isSome | .status, b => (decodeEmpty b).isSome
  | .configure, b => (decodeConfigure b).isSome | .portSet, b => (decodePortSet b).isSome
  | .admitClip, b => (decodeAdmit b).isSome | .cancelClip, b => (decodeClipId b).isSome
  | .queryClip, b => (decodeClipId b).isSome | .peekResult, b => (decodeEmpty b).isSome
  | .takeResult, b => (decodeClipId b).isSome | .readChecks, b => (decodeReadChecks b).isSome
  | .ejectCard, b => (decodeEject b).isSome | .releaseDrive, b => (decodeRelease b).isSome
  | .restartPort, b => (decodeRestart b).isSome | .cardRead, b => (decodeCardRead b).isSome
  | .driveRead, b => (decodeDriveRead b).isSome | .driveWrite, b => (decodeDriveWrite b).isSome
  | .clearCounters, b => (decodeEmpty b).isSome | .engineReset, b => (decodeEmpty b).isSome

/-- The bytes of a list of extents (08 R177). -/
def extentBytes (extents : List Extent) : List Byte := extents.flatMap (fun e => leBytes 8 e.first ++ leBytes 8 e.count)

/-- The body of an ADMIT CLIP as the layout gives it (08 R177). -/
def admitBody (q : AdmitRequest) : List Byte :=
  leBytes 2 q.clip ++ leBytes 1 (portCode (.card q.card)) ++ leBytes 2 q.generation ++ leBytes 1 q.policy.code
    ++ leBytes 1 q.required ++ leBytes 1 q.extents.length ++ extentBytes q.extents ++ leBytes 1 q.dests.length
    ++ q.dests.flatMap (fun x =>
        leBytes 1 (portCode (.drive x.drive)) ++ leBytes 2 x.generation ++ leBytes 1 x.targets.length ++ extentBytes x.targets)

/-- Every field of an ADMIT CLIP fits its size in the layout. -/
def AdmitRequest.fits (q : AdmitRequest) : Prop :=
  let extentsFit (l : List Extent) : Prop := l.length < 256 ∧ ∀ e ∈ l, e.first < 2 ^ 64 ∧ e.count < 2 ^ 64
  q.clip < 2 ^ 16 ∧ q.generation < 2 ^ 16 ∧ q.required < 256 ∧ extentsFit q.extents ∧ q.dests.length < 256 ∧
    ∀ x ∈ q.dests, x.generation < 2 ^ 16 ∧ extentsFit x.targets

/-- The body has exactly the length its fields and lists imply, its port byte names a port of the kind the request takes, and its
enumerated fields hold codes (08 R167, with the layouts and codes of R177). -/
def BodyFits (kind : RequestKind) (body : List Byte) : Prop :=
  let cardPort (b : Byte) : Prop := b.toNat ≤ 0x07
  let drivePort (b : Byte) : Prop := 0x10 ≤ b.toNat ∧ b.toNat ≤ 0x13
  match kind with
  | .hello | .status | .peekResult | .clearCounters | .engineReset => body = []
  | .configure => ∃ n pairs, body = n :: pairs ∧ pairs.length = 3 * n.toNat
  | .portSet => ∃ port priority hold, body = [port, priority, hold] ∧ cardPort port ∧ hold.toNat ≤ 1
  | .admitClip => ∃ q : AdmitRequest, q.fits ∧ body = admitBody q
  | .cancelClip | .queryClip | .takeResult => body.length = 2
  | .readChecks => body.length = 8
  | .ejectCard => ∃ port lo hi, body = [port, lo, hi] ∧ cardPort port
  | .releaseDrive => ∃ port lo hi, body = [port, lo, hi] ∧ drivePort port
  | .restartPort => ∃ port, body = [port] ∧ (cardPort port ∨ drivePort port)
  | .cardRead => ∃ port fields, body = port :: fields ∧ cardPort port ∧ fields.length = 11
  | .driveRead => ∃ port fields, body = port :: fields ∧ drivePort port ∧ fields.length = 11
  | .driveWrite => ∃ port fields, body = port :: fields ∧ drivePort port ∧ 11 ≤ fields.length

/-- The state after the line has delivered bytes that complete and discard no frame. -/
def State.feed (s : State) (bytes : List Byte) : State :=
  bytes.foldl (fun s b => match exec (.byteReceived (.byte b)) s with
    | .next t => t
    | .fault _ => s
    | .refused _ => s) s

/-! ### Admission and settings as the manual's tables give them -/

/-- The position and drive port of the first destination, in list order, that fails a test (01 R5). -/
def AdmitRequest.firstBad (q : AdmitRequest) (bad : DestRequest → Bool) : Option (Nat × DriveId) :=
  (q.dests.zipIdx.find? (fun x => bad x.1)).map (fun x => (x.2, x.1.drive))

/-- The refusal of a check of the sixteen that is not made for each destination. -/
def plainCheck (fails : Bool) (st : Status) : Option ReplyBody := if fails then some (.refused st) else none

/-- The sixteen admission checks, one line for each row of R4's table: the refusal where the check fails. -/
def State.admissionChecks (s : State) (q : AdmitRequest) : List (Option ReplyBody) :=
  let dest (st : Status) (bad : DestRequest → Bool) : Option ReplyBody := (q.firstBad bad).map (fun x => .admitRefused st x.1 x.2)
  let lists := q.extents :: q.dests.map DestRequest.targets
  [ plainCheck s.isResetting .resetting,
    plainCheck (decide (256 ≤ s.table.clips.length)) .tableFull,
    plainCheck (q.clip = 0 || s.table.clips.any (fun c => c.id = q.clip)) .idInUse,
    plainCheck (lists.any (fun l => decide (16 < l.length) || l.any (fun e => e.count = 0))) .badExtents,
    plainCheck (decide (q.dests.length = 0) || decide (4 < q.dests.length) || !decide (q.dests.map DestRequest.drive).Nodup)
      .badDestinations,
    plainCheck (decide (q.required = 0) || decide (q.dests.length < q.required)) .badCopies,
    plainCheck (decide ((s.card q.card).presence ≠ .ready)) .cardNotReady,
    plainCheck (decide (q.generation ≠ (s.card q.card).generation)) .staleCard,
    plainCheck (q.extents.any (fun e => beyond (s.card q.card).capacity e.first e.count)) .sourceRange,
    dest .driveNotOnline (fun x => (s.drive x.drive).presence ≠ .online),
    dest .staleDrive (fun x => x.generation ≠ (s.drive x.drive).generation),
    dest .lengthMismatch (fun x => (x.targets.map Extent.count).sum ≠ (q.extents.map Extent.count).sum),
    dest .targetRange (fun x => x.targets.any (fun e => beyond (s.drive x.drive).capacity e.first e.count)),
    dest .targetOverlap (fun x =>
      x.targets.any (fun e => (s.drive x.drive).claims.any (fun k => rangesOverlap e.first e.count k.first k.count))
        || selfOverlap x.targets),
    dest .targetBusy (fun x =>
      x.targets.any (fun e => (s.drive x.drive).driveWrites.any (fun r => rangesOverlap e.first e.count r.first r.count))),
    plainCheck (decide (1048576 < s.store.reserved + (q.length + 2047) / 2048)) .checkStoreFull ]

/-- The claims that an admission places on a drive port (01 R6). -/
def AdmitRequest.claimsOn (q : AdmitRequest) (d : DriveId) : List Claim :=
  (q.dests.filter (fun x => x.drive = d)).flatMap
    (fun x => x.targets.map (fun e => { clip := q.clip, first := e.first, count := e.count }))

/-- The value a setting has (08 R172). -/
def State.settingValue (s : State) : Setting → Nat
  | .reserveMark => s.arbiter.reserveMark
  | .ceiling => s.arbiter.ceiling
  | .interval => s.summary.interval
  | .lowMark d => (s.drive d).lowMark
  | .highMark d => (s.drive d).highMark
  | .writeRun d => (s.drive d).writeRun
  | .verifyRun d => (s.drive d).verifyRun

/-- The value a setting has after a list of pairs: the list's first for it, else the present one (log 7). -/
def State.valueAfter (s : State) (pairs : List (Nat × Nat)) (st : Setting) : Nat :=
  match listed pairs st with
  | some (_, v) => v
  | none => s.settingValue st

/-- The pair at a position is at fault, case by case as R172 lists the four cases. Where the list sets both marks of a drive
port and they conflict, only the later pair is at fault. -/
def State.AtFault (s : State) (pairs : List (Nat × Nat)) (i : Nat) : Prop :=
  ∃ code value, pairs[i]? = some (code, value) ∧
    match settingOfCode code with
    | none => True
    | some st =>
      (∃ j, j < i ∧ ∃ p, pairs[j]? = some p ∧ settingOfCode p.1 = some st) ∨
      st.inRange value = false ∨
      (∃ d, (st = .lowMark d ∨ st = .highMark d) ∧
        ¬ (s.valueAfter pairs (.lowMark d) + 4 ≤ s.valueAfter pairs (.highMark d)) ∧
        ∀ other, (other = .lowMark d ∨ other = .highMark d) → ∀ k v, listed pairs other = some (k, v) → k ≤ i)

/-- The first check of an ordered list that fails gives this status. -/
def FirstFails : List (Prop × Status) → Status → Prop
  | [], _ => False
  | (fails, st) :: rest, status => (fails ∧ status = st) ∨ (¬ fails ∧ FirstFails rest status)

/-! ### Events -/

/-- The engine state does not turn on the ending of the operation in flight at this port: the engine is RUNNING, or another
port has an operation in flight (08 R175). -/
def State.EngineStays (s : State) (port : PortId) : Prop :=
  s.link.engine = .running ∨ (∃ q, port ≠ .card q ∧ (s.card q).op ≠ none) ∨ (∃ e, port ≠ .drive e ∧ (s.drive e).op ≠ none)

/-- A drive port that has come to a free point with no work of any kind: a completed run flips the phase there (05 R117, steps 1 and
4; log 17). With work, it decides when it takes the work up. -/
def DrivePort.idled (x : DrivePort) : DrivePort :=
  if x.passList = [] ∧ x.writeQueue = [] ∧ x.backlog = [] then
    if (match x.phase with | .write => x.writeRun | .verify => x.verifyRun) ≤ x.runCount then
      { x with phase := (match x.phase with | .write => .verify | .verify => .write), runCount := 0 }
    else x
  else x

/-- A drive port stays at a free point: ONLINE with no operation in flight and no work of any kind (04 R98). -/
abbrev DrivePort.Waits (x : DrivePort) : Prop :=
  x.presence = .online ∧ x.op = none ∧ x.passList = [] ∧ x.writeQueue = [] ∧ x.backlog = []

/-- A drive port whose queue an event has changed: its latch is evaluated once, at the end of the event, when the queue's length has
changed (04 R96; log 10). -/
def DrivePort.noticed (before after : DrivePort) : DrivePort :=
  if after.writeQueue.length = before.writeQueue.length then after
  else { after with latch := latchAfter after.latch after.lowMark after.highMark after.writeQueue.length }

/-- A drive port after an event: where the event has left it waiting without work a completed run flips the phase (05 R117, steps 1
and 4; log 17), and its latch is evaluated. -/
def DrivePort.afterEvent (before after : DrivePort) : DrivePort :=
  before.noticed (if after.Waits ∧ ¬ before.Waits then after.idled else after)

/-- The Summary Unit's figures after an event between two states: its watermarks take notice of the changes once, at its
end (09 R178; log 10). -/
def State.watermarked (old new : State) (m : Summary) : Summary :=
  { m with
    lowestFree := if new.freeCount = old.freeCount then m.lowestFree else min m.lowestFree new.freeCount,
    highestQueue := Vector.ofFn (fun d =>
      if (new.drive d).writeQueue.length = (old.drive d).writeQueue.length then m.highestQueue.get d
      else max (m.highestQueue.get d) (new.drive d).writeQueue.length) }

/-- A Summary Unit in which one countable event has been counted (09 R178, R182). -/
def Summary.counted (m : Summary) (i : Fin Config.counterCount) : Summary :=
  { m with counts := m.counts.set i.val
             (if m.counts.get i < Config.counterMax then m.counts.get i + 1 else m.counts.get i) i.isLt,
           cumulative := m.cumulative.set i.val
             (if (m.cumulative.get i).value < Config.counterMax then
                { m.cumulative.get i with value := (m.cumulative.get i).value + 1 }
              else { m.cumulative.get i with saturated := true }) i.isLt }

/-- The operation in flight of a card port is this task, and an answer brings the data of its last command. -/
def State.CardEnds (s : State) (p : CardId) (op : CardOp) (data : List Byte) : Prop :=
  (s.card p).op = some op ∧ op.done + 1 = (s.cardCommands op.task).length ∧
    ∃ run, (s.cardCommands op.task)[op.done]? = some (.read run) ∧ data.length = 512 * run.count

/-- The operation in flight of a drive port is this task, and its last command is the one now on the lanes. -/
def State.DriveAtEnd (s : State) (d : DriveId) (op : DriveOp) : Prop :=
  (s.drive d).op = some op ∧ op.done + 1 = (s.driveCommands d op.task).length

/-- The last command reads, and an answer brings exactly its data. -/
def State.DriveReads (s : State) (d : DriveId) (op : DriveOp) (data : List Byte) : Prop :=
  s.DriveAtEnd d op ∧ ∃ run, (s.driveCommands d op.task)[op.done]? = some (.read run) ∧ data.length = 512 * run.count

/-- The last command writes. -/
def State.DriveWrites (s : State) (d : DriveId) (op : DriveOp) : Prop :=
  s.DriveAtEnd d op ∧ ∃ run data, (s.driveCommands d op.task)[op.done]? = some (.write run data)

/-- The generation that a port gives at entry to IDENTIFYING: the first after the present one, 1 following 65,535, that no record
names (02 R38, 04 R87). -/
def NextGeneration (named : List Nat) (present next : Nat) : Prop :=
  next ∉ named ∧ ∃ n, 1 ≤ n ∧ next = (fun g => if g < 65535 then g + 1 else 1)^[n] present ∧
    ∀ m, 1 ≤ m → m < n → (fun g => if g < 65535 then g + 1 else 1)^[m] present ∈ named

/-- How many write-queue entries of a clip name a slot. -/
def State.entriesOf (s : State) (id : Nat) (i : SlotId) : Nat :=
  (allDrives.map (fun d => (s.drive d).writeQueue.countP (fun e => e.clip = id && e.slot = i))).sum

/-- The clip that R9 promotes when a clip passes into the state `after`: where the clip leaves READING or RECHECKING, or becomes
terminal, and its card port is READY with no other clip in READING or RECHECKING, the oldest QUEUED clip of the port's clip
queue, if any (01 R9). -/
def State.promotedBy (s : State) (c : Clip) (after : ClipState) : Option Nat :=
  if ((c.state.isReading && !after.isReading) || (!c.state.isTerminal && after.isTerminal))
      && (s.card c.card).presence = .ready
      && s.table.clips.all (fun x => x.id = c.id || x.card ≠ c.card || !x.state.isReading) then
    (s.card c.card).clipQueue.find? (fun k => k ≠ c.id && (s.clip? k).any (fun x => x.card = c.card && x.state = .queued))
  else none

/-- Every record but this clip's is as it was, except that the clip R9 promotes when this one passes into the state `after` is
READING (01 R9). -/
def OthersKept (c : Clip) (after : ClipState) (s t : State) : Prop :=
  ∀ k, k ≠ c.id → t.clip? k =
    if s.promotedBy c after = some k then (s.clip? k).map (fun x => { x with state := .reading }) else s.clip? k

/-- A clip that an event leaves open, in the state `now` that the event gives it: in DRAINING with every destination decided and
nothing in flight it ends DONE or DEGRADED and joins the result list; otherwise it goes on in that state, and no clip has ended
(01 R13, R17, R25). -/
structure ClipGoesOn (now : ClipState) (c c' : Clip) (s t : State) : Prop where
  ends : now = .draining → c'.activeCount = 0 → c'.inFlight = 0 →
    c'.state.isTerminal = true ∧ t.table.results = s.table.results ++ [c.id] ∧
    (c.pendingOutcome = none → c'.state = if ∀ x ∈ c'.dests, x.state = .copied then .done else .degraded)
  continues : ¬ (now = .draining ∧ c'.activeCount = 0 ∧ c'.inFlight = 0) →
    c'.state = now ∧ t.table.results = s.table.results

/-- The state in which a pending outcome ends a clip (01 R17). -/
abbrev PendingOutcome.ended : PendingOutcome → ClipState
  | .failed => .failed
  | .cancelled => .cancelled

/-- A clip in CLOSING at the end of an operation that touches it, of whatever kind: its in-flight count falls, and at the last the
clip takes its pending outcome; nothing else of its record changes (01 R15, R17, R18). -/
structure ClosingGoesOn (c : Clip) (o : PendingOutcome) (s t : State) : Prop where
  waits : 1 < c.inFlight → t.clip? c.id = some { c with inFlight := c.inFlight - 1 } ∧ (∀ k, k ≠ c.id → t.clip? k = s.clip? k) ∧
    t.table.results = s.table.results ∧ t.link = s.link
  ends : c.inFlight ≤ 1 → t.clip? c.id = some { c with
      inFlight := 0, state := o.ended, pendingOutcome := none,
      recheck := if c.recheck = some .pending then some .notDone else c.recheck } ∧
    OthersKept c o.ended s t ∧ t.table.results = s.table.results ++ [c.id]

/-- The sectors that a list of extents names, in list order (06 R132). -/
def extentSectors (extents : List Extent) : List Nat := extents.flatMap (fun e => List.range' e.first e.count)

/-- The write-queue entries of all drive ports that name a slot (03 R67). -/
def State.entriesNaming (s : State) (i : SlotId) : Nat :=
  (allDrives.map (fun d => (s.drive d).writeQueue.countP (fun e => e.slot = i))).sum

/-! ### The clip table in agreement with its lists -/

/-- The clip table: at most 256 records under distinct ids other than 0 (01 R1); the result list is exactly the terminal clips
(01 R28); each clip queue is exactly its port's non-terminal clips in order of admission (02 R43); and the claims are exactly
the target extents of non-terminal clips (04 R91, R93). -/
def TableExact (s : State) : Prop :=
  s.table.clips.length ≤ 256 ∧ (s.table.clips.map Clip.id).Nodup ∧ (∀ c ∈ s.table.clips, c.id ≠ 0) ∧
  s.table.results.Nodup ∧ (∀ id, id ∈ s.table.results ↔ ∃ c ∈ s.table.clips, c.id = id ∧ c.state.isTerminal = true) ∧
  (∀ p, (s.card p).clipQueue = (s.table.clips.filter (fun c => c.card = p && !c.state.isTerminal)).map Clip.id) ∧
  (∀ d k, k ∈ (s.drive d).claims ↔ ∃ c ∈ s.table.clips, c.state.isTerminal = false ∧ ∃ x ∈ c.dests, x.drive = d ∧
    ∃ e ∈ x.targets, k = { clip := c.id, first := e.first, count := e.count })

/-! ### Losses of a medium -/

/-- The slot a card port is reading into, with the owner and purpose of its grant (03 R63). -/
def CardPort.fills (x : CardPort) : Option (SlotId × Owner × Purpose) :=
  match x.op with
  | some op =>
    match op.task with
    | .copyRead clip chunk slot => some (slot, { clip := clip, chunk := chunk }, .copy)
    | .repairRead clip chunk _ slot => some (slot, { clip := clip, chunk := chunk }, .repair)
    | .identification _ | .recheckRead _ _ | .passThrough _ => none
  | none => none

/-- The pass-through record in flight at a card port, if any. -/
def CardPort.passNow (x : CardPort) : List PassRecord :=
  match x.op with
  | some { task := .passThrough r, done := _, retries := _, filled := _, check := _, remainder := _ } => [r]
  | _ => []

/-- The pass-through record in flight at a drive port, if any. -/
def DrivePort.passNow (x : DrivePort) : List PassRecord :=
  match x.op with
  | some { task := .passThrough r, done := _, retries := _, check := _ } => [r]
  | _ => []

/-- The clip that the operation in flight touches (01 R15). -/
def CardPort.touches (x : CardPort) : Option Nat := x.op.bind (fun op => op.task.clip?)

/-- The clip that the operation in flight touches (01 R15). -/
def DrivePort.touches (x : DrivePort) : Option Nat := x.op.bind (fun op => op.task.clip?)

/-- The reply that ends a pass-through request with a status alone (07 R157). -/
def PassRecord.endedBy (st : Status) (r : PassRecord) : Reply :=
  { kind := r.kind.request, tag := r.tag, body := .refused st, linkRefusal := false }

/-- The clip a CLIP ENDED names. -/
def Notice.endedClip : Notice → Option Nat
  | .clipEnded id _ => some id
  | .card _ _ _ | .drive _ _ _ | .summary _ | .gap _ => none

/-- The notices of a terminal entry: CARD EVENT IDLE and CLIP ENDED (01 R17). -/
def Notice.ofEnd (n : Notice) : Prop := (∃ p g, n = .card p g .idle) ∨ ∃ id outcome, n = .clipEnded id outcome

/-- A loss raises the port's own event ahead of the notices of every clip it ends, but behind those of the clip that its abandoned
operation touched, where that clip ended with the operation (02 R41, 04 R102). The clips that end join the result list in the order
of their CLIP ENDED (01 R17; log 24). -/
def LossRaises (own : Notice) (touched : Option Nat) (s t : State) : Prop :=
  ∃ first rest : List Notice,
    (∀ n ∈ first, n.ofEnd ∧ ∀ id, n.endedClip = some id → touched = some id) ∧ (touched = none → first = []) ∧
    (∀ n ∈ rest, n.ofEnd) ∧
    t.link.notices = ((first ++ own :: rest).foldl Link.raise s.link).notices ∧
    t.link.lost = ((first ++ own :: rest).foldl Link.raise s.link).lost ∧
    t.table.results = s.table.results ++ (first ++ rest).filterMap Notice.endedClip

/-- A claim stays while its clip's record has not become terminal in the event between two states (04 R93). -/
def Claim.stays (s t : State) (k : Claim) : Bool :=
  !((s.clip? k.clip).any (fun c => !c.state.isTerminal) && (t.clip? k.clip).any (fun c => c.state.isTerminal))

/-- A clip in CLOSING or terminal at a loss: its destinations and cause stay, and CLOSING waits for its in-flight count (01 R16, R17,
R20, R24). -/
structure ClipSpared (c c' : Clip) : Prop where
  dests : c'.dests = c.dests
  cause : c'.cause = c.cause
  waits : c.state = .closing → 0 < c'.inFlight → c'.state = .closing
  ends : c.state = .closing → c'.inFlight = 0 → c'.state.isTerminal = true ∧
    (∀ o, c.pendingOutcome = some o → c'.state = match o with | .failed => .failed | .cancelled => .cancelled)
  terminal : c.state.isTerminal = true → c'.state = c.state

/-- A clip that a loss has closed (01 R14, R17). -/
structure ClipClosedBy (cause : Cause) (c' : Clip) : Prop where
  cause : c'.cause = some cause
  state : c'.state = if c'.inFlight = 0 then .failed else .closing

/-- A clip in DRAINING after a loss that does not close it: it continues, and ends when every destination is decided and nothing is in
flight (01 R13). -/
structure ClipDrains (c c' : Clip) : Prop where
  cause : c'.cause = c.cause
  continues : ¬ (c'.activeCount = 0 ∧ c'.inFlight = 0) → c'.state = .draining
  ends : c'.activeCount = 0 → c'.inFlight = 0 → c'.state.isTerminal = true ∧
    (c.pendingOutcome = none → c'.state = if ∀ x ∈ c'.dests, x.state = .copied then .done else .degraded)

/-- The clip that R9 promotes at a card port in an event that ends or closes several clips: where some clip of the port has left
READING or RECHECKING or become terminal, and the port is READY with no clip that READING or RECHECKING has kept, the oldest
QUEUED clip of its clip queue that is still open (01 R9). -/
def State.promotedAt (s t : State) (p : CardId) : Option Nat :=
  let after (x : Clip) (is : ClipState → Bool) : Bool := (t.clip? x.id).any (fun y => is y.state)
  if (t.card p).presence = .ready
      && s.table.clips.any (fun x => x.card = p && ((x.state.isReading && !after x ClipState.isReading)
        || (!x.state.isTerminal && after x ClipState.isTerminal)))
      && s.table.clips.all (fun x => x.card ≠ p || !(x.state.isReading && after x ClipState.isReading)) then
    (s.card p).clipQueue.find? (fun k => (s.clip? k).any (fun x => x.state = .queued) && (t.clip? k).any (fun x => x.state.isOpen))
  else none

/-- A QUEUED clip is READING after the event exactly where R9 promotes it at its port (01 R9). -/
def QueuesPromoted (s t : State) : Prop :=
  ∀ k c c', s.clip? k = some c → t.clip? k = some c' → c.state = .queued →
    (c'.state = .reading ↔ s.promotedAt t c.card = some k)

/-- An ACTIVE destination, of a clip outside CLOSING, that the card port owes a repair: named on its repair list or served by its
repair read in flight (01 R20, 02 R53). -/
def Clip.losesSource (c : Clip) (x : CardPort) (d : DriveId) : Bool :=
  c.state.isOpen && c.activeOn d && x.owedRepairs.any (fun e => e.clip = c.id && e.drive = d)

/-- A clip that the loss of its card leaves unread: QUEUED or READING on the port's clip queue (01 R20). -/
def Clip.unreadAt (c : Clip) (x : CardPort) : Bool := (c.state = .queued || c.state = .reading) && x.clipQueue.contains c.id

/-- A clip that goes on without its card but has lost a destination with it, and now has too few copies (01 R20, R27). -/
def Clip.tooFewAt (c : Clip) (x : CardPort) : Bool :=
  !c.unreadAt x && c.dests.any (fun y => c.losesSource x y.drive) &&
    decide (c.dests.countP (fun y => y.state ≠ .lost && !c.losesSource x y.drive) < c.required)

/-- A record before and after the loss of a card, whose port stood as given (01 R20). -/
structure ClipAtCardLoss (x : CardPort) (c c' : Clip) : Prop where
  kept : ClipKept { c with inFlight := if x.touches = some c.id then c.inFlight - 1 else c.inFlight } c'
  dests : c'.dests = c.dests.map (fun y =>
    if c.losesSource x y.drive then { y with state := .lost, lossCause := some .noSource } else y)
  unread : c.unreadAt x = true → ClipClosedBy .sourceLost c'
  tooFew : c.tooFewAt x = true → ClipClosedBy .tooFewCopies c'
  rechecking : c.state = .rechecking → c.id ∈ x.clipQueue → c'.recheck = some .notDone
  elsewhere : c.state = .queued ∨ c.state = .reading ∨ c.state = .rechecking → c.id ∉ x.clipQueue → c.tooFewAt x = false →
    c'.cause = c.cause ∧ (c'.state = c.state ∨ (c.state = .queued ∧ c'.state = .reading))
  drains : c.state = .draining ∨ (c.state = .rechecking ∧ c.id ∈ x.clipQueue) → c.tooFewAt x = false → ClipDrains c c'
  spared : c.state.isOpen = false → ClipSpared c c'

/-- The loss of a card between two states (02 R41, R42, R53; 01 R20; 07 R157): `x` is the port's new presence, lines and identity,
`event` its notice, `inFlight` and `listed` the endings of its pass-through reads. -/
structure CardLost (p : CardId) (x : CardPort) (event : CardEvent) (inFlight listed : Status) (s t : State) : Prop where
  port : t.card p = { x with op := none, repairs := [], passList := [], recheck := none, clipQueue := (t.card p).clipQueue }
  queue : (t.card p).clipQueue.Sublist (s.card p).clipQueue
  replies : t.link.replies = s.link.replies ++ (s.card p).passNow.map (PassRecord.endedBy inFlight)
    ++ (s.card p).passList.map (PassRecord.endedBy listed)
  notices : LossRaises (.card p (s.card p).generation event) (s.card p).touches s t
  clips : ∀ k c, s.clip? k = some c → ∃ c', t.clip? k = some c' ∧ ClipAtCardLoss (s.card p) c c'
  promotes : TableExact s → QueuesPromoted s t
  filled : ∀ i o u, (s.card p).fills = some (i, o, u) →
    t.slot i = { s.slot i with state := .free, owner := none, purpose := none, refs := 0 } ∧
    t.arbiter = { s.arbiter with inService := s.arbiter.inService.set p.val none p.isLt }
  service : (s.card p).fills = none → t.arbiter = s.arbiter
  slots : ∀ i, (∀ o u, (s.card p).fills ≠ some (i, o, u)) →
    t.slot i = Slot.dropRef^[s.entriesNaming i - t.entriesNaming i] (s.slot i)
  cards : ∀ q, q ≠ p → CardKept (s.card q) (t.card q)
  drives : ∀ d, t.drive d =
    let keeps (k : Nat) : Bool := !(s.clip? k).any (fun c =>
      c.unreadAt (s.card p) || c.tooFewAt (s.card p) || c.losesSource (s.card p) d)
    (s.drive d).afterEvent { s.drive d with writeQueue := (s.drive d).writeQueue.filter (fun e => keeps e.clip),
                                            backlog := (s.drive d).backlog.filter (fun e => keeps e.clip),
                                            claims := (s.drive d).claims.filter (Claim.stays s t) }
  records : t.table.clips.map Clip.id = s.table.clips.map Clip.id
  store : t.store = s.store
  freeValues : t.freeValues = s.freeValues
  pending : t.pending = s.pending
  engine : t.link.engine = s.link.engine
  outstanding : t.link.outstanding = s.link.outstanding
  summary : t.summary = State.watermarked s t s.summary

/-- An ACTIVE destination on the drive port, of a clip outside CLOSING (01 R24). -/
def Clip.losesDrive (c : Clip) (d : DriveId) : Bool := c.state.isOpen && c.activeOn d

/-- A clip that the loss of the drive leaves too few copies (01 R24, R27). -/
def Clip.tooFewWithout (c : Clip) (d : DriveId) : Bool :=
  c.losesDrive d && decide (c.dests.countP (fun y => y.state ≠ .lost && y.drive ≠ d) < c.required)

/-- A record before and after the loss of a drive, whose port stood as given (01 R24). -/
structure ClipAtDriveLoss (d : DriveId) (cause : LossCause) (x : DrivePort) (c c' : Clip) : Prop where
  kept : ClipKept { c with inFlight := if x.touches = some c.id then c.inFlight - 1 else c.inFlight } c'
  dests : c'.dests = c.dests.map (fun y =>
    if y.drive = d ∧ c.losesDrive d = true then { y with state := .lost, lossCause := some cause } else y)
  tooFew : c.tooFewWithout d = true → ClipClosedBy .tooFewCopies c'
  drains : c.state = .draining → c.tooFewWithout d = false → ClipDrains c c'
  reads : c.state = .queued ∨ c.state = .reading ∨ c.state = .rechecking → c.tooFewWithout d = false →
    c'.cause = c.cause ∧ (c'.state = c.state ∨ (c.state = .queued ∧ c'.state = .reading))
  spared : c.state.isOpen = false → ClipSpared c c'

/-- The loss of a drive between two states (04 R102, R103; 01 R24; 07 R157): `x` is the port's new presence, lines and identity,
`event` its notice, `cause` the loss cause, `inFlight` and `listed` the endings of its pass-through requests. -/
structure DriveLost (d : DriveId) (x : DrivePort) (event : DriveEvent) (cause : LossCause) (inFlight listed : Status)
    (s t : State) : Prop where
  port : t.drive d = { x with op := none, writeQueue := [], backlog := [], passList := [], latch := false,
                              claims := (t.drive d).claims }
  replies : t.link.replies = s.link.replies ++ (s.drive d).passNow.map (PassRecord.endedBy inFlight)
    ++ (s.drive d).passList.map (PassRecord.endedBy listed)
  notices : LossRaises (.drive d (s.drive d).generation event) (s.drive d).touches s t
  clips : ∀ k c, s.clip? k = some c → ∃ c', t.clip? k = some c' ∧ ClipAtDriveLoss d cause (s.drive d) c c'
  promotes : TableExact s → QueuesPromoted s t
  slots : ∀ i, t.slot i = Slot.dropRef^[s.entriesNaming i - t.entriesNaming i] (s.slot i)
  cards : ∀ q, CardKept (s.card q) (t.card q)
  drives : ∀ e, e ≠ d → t.drive e =
    let keeps (k : Nat) : Bool := !(s.clip? k).any (fun c => c.tooFewWithout d)
    (s.drive e).afterEvent { s.drive e with writeQueue := (s.drive e).writeQueue.filter (fun w => keeps w.clip),
                                            backlog := (s.drive e).backlog.filter (fun w => keeps w.clip),
                                            claims := (s.drive e).claims.filter (Claim.stays s t) }
  claims : (t.drive d).claims = (s.drive d).claims.filter (Claim.stays s t)
  records : t.table.clips.map Clip.id = s.table.clips.map Clip.id
  store : t.store = s.store
  arbiter : t.arbiter = s.arbiter
  freeValues : t.freeValues = s.freeValues
  pending : t.pending = s.pending
  engine : t.link.engine = s.link.engine
  outstanding : t.link.outstanding = s.link.outstanding
  summary : t.summary = State.watermarked s t s.summary

/-! ### Invariants -/

/-- The operation in flight is an identification. -/
def CardPort.identifies (x : CardPort) : Bool :=
  match x.op with
  | some { task := .identification _, done := _, retries := _, filled := _, check := _, remainder := _ } => true
  | _ => false

/-- The operation in flight is an identification. -/
def DrivePort.identifies (x : DrivePort) : Bool :=
  match x.op with
  | some { task := .identification _, done := _, retries := _, check := _ } => true
  | _ => false

/-- The operation in flight is a chunk write. -/
def DrivePort.writes (x : DrivePort) : Bool :=
  match x.op with
  | some { task := .chunkWrite _, done := _, retries := _, check := _ } => true
  | _ => false

/-- A card port's parts fit its presence state (02): the settle timer runs in SETTLING, CREL is driven in EJECTED (R56), an
identification is in flight in IDENTIFYING and only there (R39), another operation only in READY, the identity is known or not
by the state (R40), the lists keep their bounds (R52, R148), and a command is retried at most three times (R45). -/
def CardPort.Consistent (x : CardPort) : Prop :=
  x.settleTimer = decide (x.presence = .settling) ∧
  x.crel = decide (x.presence = .ejected) ∧
  x.identifies = decide (x.presence = .identifying) ∧
  (x.op.isSome = true → x.presence = .identifying ∨ x.presence = .ready) ∧
  x.capacity.isSome = x.mediaId.isSome ∧
  (x.presence = .empty ∨ x.presence = .settling ∨ x.presence = .identifying → x.capacity = none) ∧
  (x.presence = .ready ∨ x.presence = .ejected → x.capacity.isSome = true) ∧
  (x.presence ≠ .ready → x.passList = []) ∧
  x.passList.length ≤ 4 ∧ x.repairs.length ≤ 32 ∧ x.generation ≤ 65535 ∧
  (∀ op, x.op = some op → op.retries ≤ 3)

/-- A drive port's parts fit its presence state (04), the backlog keeps its bound and leaves room for the write in flight (05
R112), and a command is retried at most two times (04 R90). -/
def DrivePort.Consistent (x : DrivePort) : Prop :=
  x.settleTimer = decide (x.presence = .settling) ∧
  x.drel = decide (x.presence = .released) ∧
  x.identifies = decide (x.presence = .identifying) ∧
  (x.op.isSome = true → x.presence = .identifying ∨ x.presence = .online) ∧
  x.capacity.isSome = x.mediaId.isSome ∧
  (x.presence = .absent ∨ x.presence = .settling ∨ x.presence = .identifying → x.capacity = none) ∧
  (x.presence = .online ∨ x.presence = .released → x.capacity.isSome = true) ∧
  (x.presence ≠ .online → x.passList = []) ∧
  x.passList.length ≤ 4 ∧ x.generation ≤ 65535 ∧
  x.backlog.length ≤ 1024 ∧ (x.writes = true → x.backlog.length < 1024) ∧
  (∀ op, x.op = some op → op.retries ≤ 2)

/-- Every port's parts fit its presence state. -/
def PortsConsistent (s : State) : Prop := (∀ p, (s.card p).Consistent) ∧ (∀ d, (s.drive d).Consistent)

/-- Every setting lies in its range (03 3.2, 08 R172, 02 R58), and no run count exceeds 64 (05 R117). -/
def LegalSettings (s : State) : Prop :=
  s.arbiter.reserveMark ≤ 128 ∧ s.arbiter.ceiling ≤ 7 ∧ (∀ p, s.arbiter.priority.get p ≤ 7) ∧
  (250 ≤ s.summary.interval ∧ s.summary.interval ≤ 10000 ∧ s.summary.interval % 250 = 0) ∧
  (∀ d, 4 ≤ (s.drive d).lowMark ∧ (s.drive d).lowMark + 4 ≤ (s.drive d).highMark ∧
    16 ≤ (s.drive d).highMark ∧ (s.drive d).highMark ≤ 96) ∧
  (∀ d, 1 ≤ (s.drive d).writeRun ∧ (s.drive d).writeRun ≤ 64 ∧ 1 ≤ (s.drive d).verifyRun ∧ (s.drive d).verifyRun ≤ 64) ∧
  (∀ d, (s.drive d).runCount ≤ 64)

/-- The link's bounds: at most 64 notices, a lost count of at most 65,535, at most 8 distinct outstanding tags, at most 8 link
refusals waiting (08 R165, R168, R169). -/
def LinkBounded (s : State) : Prop :=
  s.link.notices.length ≤ 64 ∧ s.link.lost ≤ 65535 ∧ s.link.outstanding.length ≤ 8 ∧ s.link.outstanding.Nodup ∧
  s.link.refusalsWaiting ≤ 8

/-- The tags of pass-through records, waiting and in flight, of a card port. -/
def CardPort.passTags (x : CardPort) : List Byte :=
  (match x.op with
   | some { task := .passThrough r, done := _, retries := _, filled := _, check := _, remainder := _ } => [r.tag]
   | _ => []) ++ x.passList.map PassRecord.tag

/-- The tags of pass-through records, waiting and in flight, of a drive port. -/
def DrivePort.passTags (x : DrivePort) : List Byte :=
  (match x.op with
   | some { task := .passThrough r, done := _, retries := _, check := _ } => [r.tag]
   | _ => []) ++ x.passList.map PassRecord.tag

/-- The tag that the end of the present sending frees. -/
def Transmitter.tags : Transmitter → List Byte
  | .sending _ (some tag) => [tag]
  | _ => []

/-- Every place that owes a reply, or holds or sends one: the tag of each request accepted and not yet answered in full. -/
def State.owedTags (s : State) : List Byte :=
  (s.link.replies.filter (fun r => !r.linkRefusal)).map Reply.tag ++ s.link.transmitter.tags ++ s.link.resetTag.toList
    ++ allCards.flatMap (fun p => (s.card p).passTags) ++ allDrives.flatMap (fun d => (s.drive d).passTags)

/-- Each outstanding tag has exactly one place that owes, holds or sends its reply (07 R160, 08 R166, R168), and the tag of an
ENGINE RESET is held exactly while the engine is RESETTING (08 R174). -/
def TagsAccounted (s : State) : Prop :=
  s.link.outstanding.Perm s.owedTags ∧ (s.link.resetTag.isSome = true ↔ s.link.engine = .resetting)

/-- A RESETTING engine has some port with an operation in flight (08 R175). -/
def ResettingBusy (s : State) : Prop := s.link.engine = .resetting → s.quiet = false

/-- Nothing the table owes is left undone: no clip is due to end (01 R13, R17), at most one clip of a card port is READING or
RECHECKING (01 R9), and the Check Store's total is the sum of the chunk counts, at most 1,048,576 (06 R140). -/
def TableSettled (s : State) : Prop :=
  (∀ c ∈ s.table.clips, c.due = false) ∧
  (∀ p, s.table.clips.countP (fun c => c.card = p && c.state.isReading) ≤ 1) ∧
  s.store.reserved = (s.table.clips.map Clip.chunkCount).sum ∧ s.store.reserved ≤ 1048576

/-- On every drive port no sector lies in two claims, the claims stand in order of first sector (04 R91), and no DRIVE WRITE
waiting or in flight shares a sector with a claim (04 R92). -/
def ClaimsExclusive (s : State) : Prop :=
  ∀ d, (s.drive d).claims.Pairwise (fun a b => rangesOverlap a.first a.count b.first b.count = false) ∧
    (s.drive d).claims.Pairwise (fun a b => a.first ≤ b.first) ∧
    ∀ r ∈ (s.drive d).driveWrites, ∀ k ∈ (s.drive d).claims, rangesOverlap r.first r.count k.first k.count = false

/-- The pool agrees with the queues and the ports: a FREE slot has no owner, purpose, reference or entry; a FILLING slot has
no reference and no entry and one card port reads into it; a HELD slot has as many references as entries name it, at least
one (03 R62, R63, R67); and the in-service set is the card ports that read into a slot, with their purposes (03 R75). -/
def PoolExact (s : State) : Prop :=
  (∀ i, match (s.slot i).state with
    | .free => (s.slot i).owner = none ∧ (s.slot i).purpose = none ∧ (s.slot i).refs = 0 ∧ s.entriesNaming i = 0
    | .filling => (s.slot i).refs = 0 ∧ s.entriesNaming i = 0 ∧
        ∃ p o u, (s.card p).fills = some (i, o, u) ∧ (s.slot i).owner = some o ∧ (s.slot i).purpose = some u
    | .held => (s.slot i).owner.isSome = true ∧ (s.slot i).purpose.isSome = true ∧ (s.slot i).refs = s.entriesNaming i ∧
        1 ≤ (s.slot i).refs) ∧
  (∀ p i o u, (s.card p).fills = some (i, o, u) → (s.slot i).state = .filling) ∧
  (∀ p q i o u o' u', (s.card p).fills = some (i, o, u) → (s.card q).fills = some (i, o', u') → p = q) ∧
  (∀ p, s.arbiter.inService.get p = (s.card p).fills.map (fun x => x.2.2))

/-- How many operations in flight touch a clip (01 R15). -/
def State.touching (s : State) (id : Nat) : Nat :=
  allCards.countP (fun p => (s.card p).touches = some id) + allDrives.countP (fun d => (s.drive d).touches = some id)

/-- Every record's counts (01 R3, R15): the in-flight count is the number of operations that touch the clip, at most 5; chunks
verified, chunks written, chunks read and the chunk count stand in that order for each of one to four destinations, which name
distinct drive ports; and at most four repairs are used (05 R120). An operation touches only a clip that is in the table and not
terminal (01 R15), and a card port's only a clip of its own. -/
def CountsExact (s : State) : Prop :=
  (∀ c ∈ s.table.clips, c.inFlight = s.touching c.id ∧ c.inFlight ≤ 5 ∧ c.chunksRead ≤ c.chunkCount ∧
    1 ≤ c.dests.length ∧ c.dests.length ≤ 4 ∧ (c.dests.map Destination.drive).Nodup ∧
    ∀ x ∈ c.dests, x.chunksVerified ≤ x.chunksWritten ∧ x.chunksWritten ≤ c.chunksRead ∧ x.repairsUsed ≤ 4) ∧
  (∀ p id, (s.card p).touches = some id → ∃ c, s.clip? id = some c ∧ c.state.isTerminal = false ∧ c.card = p) ∧
  (∀ d id, (s.drive d).touches = some id → ∃ c, s.clip? id = some c ∧ c.state.isTerminal = false ∧ ∃ x, c.destOn d = some x)

/-- The write-queue entries of a clip on a drive port whose slots have this purpose (03 R63). -/
def State.writesQueued (s : State) (d : DriveId) (id : Nat) (u : Purpose) : Nat :=
  (s.drive d).writeQueue.countP (fun e => e.clip = id && (s.slot e.slot).purpose = some u)

/-- The chunks of a clip written to a drive port and not yet verified: those on the backlog, those owed a repair by the card port,
and those whose repair waits to be written (05 R112, R120, R123). -/
def State.unverified (s : State) (d : DriveId) (c : Clip) : Nat :=
  (s.drive d).backlog.countP (fun e => e.clip = c.id)
    + (s.card c.card).owedRepairs.countP (fun e => e.clip = c.id && e.drive = d) + s.writesQueued d c.id .repair

/-- The work that waits for an open clip accounts for its counts, and no work waits for any other: what an open clip's state says of
chunks read (01 R9, R10); that each chunk read and not yet written waits on the write queue of every ACTIVE destination (01 R11),
and each chunk written and not yet verified on the backlog, the repair list or the write queue (05 R112, R120, R123); that
every entry belongs to an ACTIVE destination of an open clip (04 R87, 05 R112); that a verify read's entry stays on the backlog
(05 R113); that a clip in QUEUED, READING or RECHECKING has its source present, and waits QUEUED only behind another (01 R9); and
that the recheck state belongs to a clip in RECHECKING, or in CLOSING while its read is in flight (05 R126, R128). -/
structure WorkAccounted (s : State) : Prop where
  stages : ∀ c ∈ s.table.clips,
    (c.state = .queued → c.chunksRead = 0 ∧ 0 < c.chunkCount ∧ s.portReads c.card = true) ∧
    (c.state = .reading → c.chunksRead < c.chunkCount) ∧
    (c.state = .rechecking ∨ c.state = .draining → c.chunksRead = c.chunkCount) ∧
    (c.state = .queued ∨ c.state = .reading ∨ c.state = .rechecking → s.sourcePresent c = true)
  waits : ∀ c ∈ s.table.clips, c.state.isOpen = true → ∀ x ∈ c.dests, x.state = .active →
    x.chunksWritten + s.writesQueued x.drive c.id .copy = c.chunksRead ∧
    x.chunksVerified + s.unverified x.drive c = if c.policy = .none then 0 else x.chunksWritten
  writes : ∀ d, ∀ e ∈ (s.drive d).writeQueue, ∃ c, s.clip? e.clip = some c ∧ c.state.isOpen = true ∧ c.activeOn d = true
  verifies : ∀ d, ∀ e ∈ (s.drive d).backlog, ∃ c, s.clip? e.clip = some c ∧ c.state.isOpen = true ∧ c.activeOn d = true
  repairs : ∀ p, ∀ e ∈ (s.card p).repairs, ∃ c, s.clip? e.clip = some c ∧ c.card = p ∧ c.state.isOpen = true ∧
    c.activeOn e.drive = true
  verifying : ∀ d op id chunk c, (s.drive d).op = some op → op.task = .verifyRead id chunk → s.clip? id = some c →
    c.state.isOpen = true → c.activeOn d = true → { clip := id, chunk := chunk } ∈ (s.drive d).backlog
  rechecks : ∀ p r, (s.card p).recheck = some r → ∃ c, s.clip? r.clip = some c ∧ c.card = p ∧
    (c.state = .rechecking ∨ (c.state = .closing ∧ (s.card p).inRecheckRead = true))
  rechecking : ∀ p op id chunk, (s.card p).op = some op → op.task = .recheckRead id chunk →
    ∃ r, (s.card p).recheck = some r ∧ r.clip = id

end Sys2Proof.Machine
end

