-- ==== Sys2Proof/Certificates/Slice0/Obligations.lean ====
section
/-! DEFINITION. The statements for the provers, from the manual's numbered rules. Each holds for every state, reachable or not,
unless a premise names an invariant that is stated here too. -/

section Slice0

open Sys2Proof Sys2Proof.Machine

/-! ### The queue of commands -/

/-- A step takes the command at the front of the queue and runs it on the queue's rest; on an empty queue it idles (the model's
own queue, log 1). -/
def Obligations.StepTakesFrontCommand : Prop :=
  ∀ (c : Instr) (rest : List Instr) (s : State),
    step { s with pending := c :: rest } = exec c { s with pending := rest } ∧
    step { s with pending := [] } = .next { s with pending := [] }

/-- Every command answers a next state in every state, and leaves the queue of commands to step: nothing stops the block. -/
def Obligations.EveryCommandAnswersNext : Prop :=
  ∀ (c : Instr) (s : State), ∃ t, exec c s = .next t ∧ t.pending = s.pending

/-! ### Power-on -/

/-- POWER ON RESET puts every block at its power-on values, whatever it held, with the line rate from the straps and each port
SETTLING whose detect line shows a medium. The queue of commands and the number of free values are the model's own and are
kept; an empty scratch buffer is the model's choice (log 14). -/
def Obligations.PowerOnResetValues : Prop :=
  ∀ (straps : BitVec 2) (cards : BitVec 8) (drives : BitVec 4) (s : State), ∃ t,
    exec (.powerOnReset straps cards drives) s = .next t ∧
    t.pending = s.pending ∧ t.freeValues = s.freeValues ∧
    t.link = { lineRate := if straps = 0 then .mbit3 else if straps = 1 then .mbit6 else .mbit12, receiver := .hunt,
               gapTimer := false, outstanding := [], replies := [], notices := [], lost := 0, transmitter := .idle,
               engine := .running, resetTag := none } ∧
    t.table = { clips := [], results := [] } ∧ t.store = { rows := [], reserved := 0 } ∧
    (∀ i, t.slot i = { state := .free, owner := none, purpose := none, refs := 0, data := [] }) ∧ t.freeCount = 512 ∧
    (∀ p, t.arbiter.priority.get p = 3 ∧ t.arbiter.hold.get p = false ∧ t.arbiter.inService.get p = none) ∧
    t.arbiter.reserveMark = 48 ∧ t.arbiter.ceiling = 1 ∧ t.arbiter.roundRobin = 7 ∧
    (∀ p : CardId, t.card p =
      { presence := if cards.getLsbD p.val then .settling else .empty, detect := cards.getLsbD p.val,
        settleTimer := cards.getLsbD p.val, generation := 0, capacity := none, mediaId := none, clipQueue := [],
        repairs := [], passList := [], scratch := [], recheck := none, op := none, crel := false }) ∧
    (∀ d : DriveId, t.drive d =
      { presence := if drives.getLsbD d.val then .settling else .absent, detect := drives.getLsbD d.val,
        settleTimer := drives.getLsbD d.val, generation := 0, capacity := none, mediaId := none, claims := [],
        writeQueue := [], backlog := [], latch := false, lowMark := 24, highMark := 64, writeRun := 16, verifyRun := 8,
        phase := .write, runCount := 0, passList := [], op := none, drel := false }) ∧
    t.summary.timer = 1000 ∧ t.summary.interval = 1000 ∧ t.summary.sequence = 0 ∧ t.summary.lowestFree = 512 ∧
    (∀ d, t.summary.highestQueue.get d = 0) ∧
    (∀ i, t.summary.counts.get i = 0 ∧ t.summary.cumulative.get i = { value := 0, saturated := false })

/-- The reset state is what the power-on reset leaves with straps 00 and no medium in any port (log 13), and it has every
invariant stated here. -/
def Obligations.ResetStateHasInvariants : Prop :=
  exec (.powerOnReset 0 0 0) State.reset = .next State.reset ∧
  PortsConsistent State.reset ∧ LegalSettings State.reset ∧ LinkBounded State.reset ∧ TagsAccounted State.reset ∧
  ResettingBusy State.reset ∧ TableExact State.reset ∧ TableSettled State.reset ∧ ClaimsExclusive State.reset ∧ PoolExact State.reset ∧
  CountsExact State.reset ∧ WorkAccounted State.reset

/-! ### Receiving -/

/-- BYTE RECEIVED advances the receiver by R162's table: every row that neither completes nor discards a frame. The gap timer
starts afresh at each byte taken outside HUNT and is stopped in HUNT. Nothing else changes. Every byte or byte error that the
line delivers is taken by one of the rows: this one, FRAME DISCARD, or the last byte of a complete frame of a known kind. -/
def Obligations.ByteReceivedAdvances : Prop :=
  (∀ (s : State) (b : Byte),
     let go (r : Receiver) (timer : Bool) : State := { s with link := { s.link with receiver := r, gapTimer := timer } }
     (s.link.receiver = .hunt →
       exec (.byteReceived (.byte b)) s = .next (if b = 0xA5 then go .sync true else go .hunt false) ∧
       exec (.byteReceived .error) s = .next (go .hunt false)) ∧
     (s.link.receiver = .sync →
       exec (.byteReceived (.byte b)) s = .next
         (if b = 0x3C then go (.length none) true else if b = 0xA5 then go .sync true else go .hunt false) ∧
       exec (.byteReceived .error) s = .next (go .hunt false)) ∧
     (s.link.receiver = .length none → exec (.byteReceived (.byte b)) s = .next (go (.length (some b)) true)) ∧
     (∀ lo : Byte, s.link.receiver = .length (some lo) → 2 ≤ lo.toNat + 256 * b.toNat → lo.toNat + 256 * b.toNat ≤ 32800 →
       exec (.byteReceived (.byte b)) s = .next (go (.content (lo.toNat + 256 * b.toNat) []) true)) ∧
     (∀ n taken, s.link.receiver = .content n taken →
       exec (.byteReceived (.byte b)) s = .next
         (if taken.length + 1 < n then go (.content n (taken ++ [b])) true else go (.check (taken ++ [b]) none) true)) ∧
     (∀ whole, s.link.receiver = .check whole none →
       exec (.byteReceived (.byte b)) s = .next (go (.check whole (some b)) true))) ∧
  (∀ (s : State) (b : LineByte),
     (∃ r, s.link.receiver.take b = .advance r ∧ s.link.discards b = false) ∨
     s.link.discards b = true ∨
     (∃ (kind : RequestKind) (tag : Byte) (body : List Byte) (hi : Byte),
       b = .byte hi ∧ s.link.receiver.take b = .complete (requestContent kind tag body) ∧ s.link.discards b = false ∧
       s.link.receiver.completes (requestContent kind tag body) = true))

/-- FRAME DISCARD returns the receiver to HUNT and counts the frame, for a length out of range, a byte error after the sync pair,
a check that differs, and a complete frame of unknown kind or without room for its link refusal. The frame's bytes and
every other part stay as they are.
The gap timer's expiry in LENGTH, CONTENT or CHECK discards the partial frame too; in SYNC the receiver returns to HUNT with no
discard counted; and a timer that does not run does not expire, so that command changes nothing (log 2). -/
def Obligations.FrameDiscarded : Prop :=
  (∀ (s : State) (b : Byte),
     let gone : State := { s with link := { s.link with receiver := .hunt, gapTimer := false },
                                  summary := s.summary.counted framesCounter }
     (∀ lo : Byte, s.link.receiver = .length (some lo) → ¬ (2 ≤ lo.toNat + 256 * b.toNat ∧ lo.toNat + 256 * b.toNat ≤ 32800) →
       exec (.frameDiscard (.byte b)) s = .next gone) ∧
     (s.link.receiver ≠ .hunt → s.link.receiver ≠ .sync → exec (.frameDiscard .error) s = .next gone) ∧
     (∀ whole (lo : Byte), s.link.receiver = .check whole (some lo) →
       lo.toNat + 256 * b.toNat ≠ (frameCheck (leBytes 2 whole.length ++ whole)).toNat →
       exec (.frameDiscard (.byte b)) s = .next gone) ∧
     (∀ (kind tag : Byte) (body : List Byte) (lo : Byte), s.link.receiver = .check (kind :: tag :: body) (some lo) →
       lo.toNat + 256 * b.toNat
         = (frameCheck (leBytes 2 (body.length + 2) ++ kind :: tag :: body)).toNat →
       (kind.toNat = 0 ∨ 0x12 < kind.toNat ∨
         ((tag ∈ s.link.outstanding ∨ 8 ≤ s.link.outstanding.length) ∧ 8 ≤ s.link.refusalsWaiting)) →
       exec (.frameDiscard (.byte b)) s = .next gone)) ∧
  (∀ s : State,
     let hunting : Link := { s.link with receiver := .hunt, gapTimer := false }
     (s.link.gapTimer = false → exec .gapTimerExpiry s = .next s) ∧
     (s.link.gapTimer = true → s.link.receiver = .hunt ∨ s.link.receiver = .sync →
       exec .gapTimerExpiry s = .next { s with link := hunting }) ∧
     (s.link.gapTimer = true → s.link.receiver ≠ .hunt → s.link.receiver ≠ .sync →
       exec .gapTimerExpiry s = .next { s with link := hunting, summary := s.summary.counted framesCounter }))

/-- A request frame laid out as R177 gives, delivered byte after byte to a hunting receiver, brings it before its last byte with
nothing else changed, and the request taken there is the request taken whole from HUNT (log 3). -/
def Obligations.RequestFrameRoundTrip : Prop :=
  ∀ (kind : RequestKind) (tag : Byte) (body : List Byte) (s : State),
    s.link.receiver = .hunt → body.length ≤ 32798 →
    let t := s.feed (frameBytes (requestContent kind tag body)).dropLast
    t.link.receiver.awaitsLast (requestContent kind tag body) = true ∧
    t = { s with link := { s.link with receiver := t.link.receiver, gapTimer := true } } ∧
    (Takes s kind tag body → exec (requestInstr kind tag body) t = exec (requestInstr kind tag body) s)

/-- What a request frame meets before its owner: a frame the receiver is not about to complete is not taken (log 3); TAG_IN_USE;
LINK_BUSY; a discard when 8 link refusals wait; BAD_BODY;
and, while the engine is RESETTING, RESETTING for every decoded request but HELLO and STATUS. Nothing else changes. -/
def Obligations.RequestMeetsLinkCheck : Prop :=
  (∀ (kind : RequestKind) (tag : Byte) (body : List Byte) (s : State),
     let hunting : Link := { s.link with receiver := .hunt, gapTimer := false }
     let refusal (st : Status) : State :=
       { s with link := { hunting with
           replies := s.link.replies ++ [{ kind := kind, tag := tag, body := .refused st, linkRefusal := true }] } }
     (s.link.receiver.completes (requestContent kind tag body) = false → exec (requestInstr kind tag body) s = .next s) ∧
     (s.link.receiver.completes (requestContent kind tag body) = true →
       (tag ∈ s.link.outstanding → s.link.refusalsWaiting < 8 → exec (requestInstr kind tag body) s = .next (refusal .tagInUse)) ∧
       (tag ∉ s.link.outstanding → 8 ≤ s.link.outstanding.length → s.link.refusalsWaiting < 8 →
         exec (requestInstr kind tag body) s = .next (refusal .linkBusy)) ∧
       (tag ∈ s.link.outstanding ∨ 8 ≤ s.link.outstanding.length → 8 ≤ s.link.refusalsWaiting →
         exec (requestInstr kind tag body) s = .next { s with link := hunting, summary := s.summary.counted framesCounter }) ∧
       (tag ∉ s.link.outstanding → s.link.outstanding.length < 8 → decodes kind body = false →
         exec (requestInstr kind tag body) s = .next (s.answered kind tag (.refused .badBody))))) ∧
  (∀ (kind : RequestKind) (tag : Byte) (body : List Byte) (s : State),
     s.link.engine = .resetting → kind ≠ .hello → kind ≠ .status → Takes s kind tag body → decodes kind body = true →
     exec (requestInstr kind tag body) s = .next (s.answered kind tag (.refused .resetting)))

/-- The body of every request that has one, laid out as R177 gives, is decoded to the request it stands for, with every field at
every value the layout admits. No other body is decoded: not one too short or too long, nor one with a port byte of the wrong kind, a
policy above 2 or a hold byte above 1. -/
def Obligations.RequestBodiesRoundTrip : Prop :=
  (∀ q : AdmitRequest, q.fits → decodeAdmit (admitBody q) = some q) ∧
  (∀ id, id < 2 ^ 16 → decodeClipId (leBytes 2 id) = some id) ∧
  (∀ pairs : List (Nat × Nat), pairs.length < 256 → (∀ x ∈ pairs, x.1 < 256 ∧ x.2 < 2 ^ 16) →
    decodeConfigure (leBytes 1 pairs.length ++ pairs.flatMap (fun x => leBytes 1 x.1 ++ leBytes 2 x.2)) = some pairs) ∧
  (∀ q : PortSetRequest, q.priority < 256 →
    decodePortSet (leBytes 1 q.card.val ++ leBytes 1 q.priority ++ leBytes 1 (if q.hold then 1 else 0)) = some q) ∧
  (∀ q : ChecksRequest, q.clip < 2 ^ 16 → q.first < 2 ^ 32 → q.count < 2 ^ 16 →
    decodeReadChecks (leBytes 2 q.clip ++ leBytes 4 q.first ++ leBytes 2 q.count) = some q) ∧
  (∀ (p : CardId) (g : Nat), g < 2 ^ 16 → decodeEject (leBytes 1 p.val ++ leBytes 2 g) = some (p, g)) ∧
  (∀ (d : DriveId) (g : Nat), g < 2 ^ 16 → decodeRelease (leBytes 1 (0x10 + d.val) ++ leBytes 2 g) = some (d, g)) ∧
  (∀ p : CardId, decodeRestart (leBytes 1 p.val) = some (.card p)) ∧
  (∀ d : DriveId, decodeRestart (leBytes 1 (0x10 + d.val)) = some (.drive d)) ∧
  (∀ q : PassRequest, q.generation < 2 ^ 16 → q.first < 2 ^ 64 → q.count < 256 →
    let after : List Byte := leBytes 2 q.generation ++ leBytes 8 q.first ++ leBytes 1 q.count
    (q.data = [] → (∀ p : CardId, decodeCardRead (leBytes 1 p.val ++ after) = some (p, q)) ∧
      ∀ d : DriveId, decodeDriveRead (leBytes 1 (0x10 + d.val) ++ after) = some (d, q)) ∧
    ∀ d : DriveId, decodeDriveWrite (leBytes 1 (0x10 + d.val) ++ after ++ q.data) = some (d, q)) ∧
  (∀ (kind : RequestKind) (body : List Byte), decodes kind body = true ↔ BodyFits kind body) ∧
  (∀ (body : List Byte) (b : Byte), (body[5]? = some b ∧ 2 < b.toNat) ∨ (body[2]? = some b ∧ 7 < b.toNat) →
    decodes .admitClip body = false)

/-! ### Sending -/

/-- TRANSMITTER TAKES FRAME, IDLE: the oldest reply is taken, before any notice; with no reply waiting the head notice, and a
GAP joins the tail and the lost count returns to 0 when notices have been lost. The frame sent is the one R177 lays out, with
the bytes the layout gives a value at that value. Nothing else changes but the model's count of free values (log 6).
END OF SENDING: the transmitter becomes IDLE, and the tag of a reply, but not that of a link refusal, leaves the outstanding
set. A transmitter that is SENDING takes no other frame.
The last clauses give the layout of every shape of reply as R177 gives it, for every value of its fields, and the codes of those
fields. The bytes 00h and 01h of latch, digest present and source unstable are the model's choice (log 22), and so is
the order of a media id's 16 bytes (log 23). -/
def Obligations.TransmitterSends : Prop :=
  (∀ s : State, s.link.transmitter = .idle →
     (∀ (r : Reply) (rest : List Reply), s.link.replies = r :: rest → ∃ content n,
       exec .transmitterTakesFrame s = .next
         { s with link := { s.link with
                    replies := rest,
                    transmitter := .sending (frameBytes content) (if r.linkRefusal then none else some r.tag) },
                  freeValues := n } ∧
       List.Forall₂ (fun f b => f = none ∨ f = some b) r.content content) ∧
     (∀ (n : Notice) (rest : List Notice), s.link.replies = [] → s.link.notices = n :: rest → ∃ content k,
       exec .transmitterTakesFrame s = .next
         { s with link := { s.link with
                    notices := if 0 < s.link.lost then rest ++ [.gap s.link.lost] else rest,
                    lost := 0,
                    transmitter := .sending (frameBytes content) none },
                  freeValues := k } ∧
       List.Forall₂ (fun f b => f = none ∨ f = some b) n.content content) ∧
     (s.link.replies = [] → s.link.notices = [] → exec .transmitterTakesFrame s = .next s)) ∧
  (∀ (s : State) (frame : List Byte) (frees : Option Byte), s.link.transmitter = .sending frame frees →
     exec .endOfSending s = .next
       { s with link := { s.link with transmitter := .idle,
                                      outstanding := s.link.outstanding.filter (fun t => some t ≠ frees) } } ∧
     exec .transmitterTakesFrame s = .next s) ∧
  (∀ (kind : RequestKind) (tag : Byte) (st : Status) (q : PortId) (d : DriveId) (g id n k first count : Nat) (state : ClipState)
     (data : List Byte) (checks : List Check),
    let content (kind : RequestKind) (body : ReplyBody) : Field :=
      ({ kind := kind, tag := tag, body := body, linkRefusal := false } : Reply).content
    let known (bytes : List Byte) : Field := bytes.map some
    let port : List Byte := leBytes 1 (match q with | .card p => p.val | .drive d => 0x10 + d.val)
    content kind (.refused st) = known (leBytes 1 (0x80 + kind.code) ++ [tag] ++ leBytes 1 st.code) ∧
    content kind .done = known (leBytes 1 (0x80 + kind.code) ++ [tag, 0x00]) ∧
    (∀ rate : LineRate, content .hello (.hello rate) = known ([0x81, tag, 0x00] ++ leBytes 2 0x5E21 ++ leBytes 2 0x0840 ++ leBytes 1 1
      ++ leBytes 1 (match rate with | .mbit3 => 3 | .mbit6 => 6 | .mbit12 => 12) ++ leBytes 1 8 ++ leBytes 1 4 ++ leBytes 2 512
      ++ leBytes 2 256 ++ leBytes 4 1048576 ++ leBytes 1 8 ++ leBytes 1 64 ++ leBytes 2 32800)) ∧
    content .configure (.pairAtFault n) = known ([0x83, tag, 0x15] ++ leBytes 1 n) ∧
    content .admitClip (.admitted id n) = known ([0x85, tag, 0x00] ++ leBytes 2 id ++ leBytes 4 n) ∧
    content .admitClip (.admitRefused st n d) =
      known ([0x85, tag] ++ leBytes 1 st.code ++ leBytes 1 n ++ leBytes 1 (0x10 + d.val)) ∧
    content .cancelClip (.cancelled id state) = known ([0x86, tag, 0x00] ++ leBytes 2 id ++ leBytes 1 state.code) ∧
    content .readChecks (.checks id first count n k checks) =
      known ([0x8A, tag, 0x00] ++ leBytes 2 id ++ leBytes 4 first ++ leBytes 2 count ++ leBytes 4 n ++ leBytes 4 k
        ++ checks.flatMap (fun v => leBytes 4 v.toNat)) ∧
    content .readChecks (.notYetRead n) = known ([0x8A, tag, 0x14] ++ leBytes 4 n) ∧
    content kind (.port q g) = known (leBytes 1 (0x80 + kind.code) ++ [tag, 0x00] ++ port ++ leBytes 2 g) ∧
    content kind (.sectors q g first count data) = known (leBytes 1 (0x80 + kind.code) ++ [tag, 0x00] ++ port ++ leBytes 2 g
      ++ leBytes 8 first ++ leBytes 1 count ++ data) ∧
    content .driveWrite (.written q first count) = known ([0x90, tag, 0x00] ++ port ++ leBytes 8 first ++ leBytes 1 count) ∧
    content kind (.mediaError q first count) =
      known (leBytes 1 (0x80 + kind.code) ++ [tag, 0x20] ++ port ++ leBytes 8 first ++ leBytes 1 count)) ∧
  (∀ (tag : Byte) (c : Clip) (record : ResultRecord) (n : Nat) (r : StatusReport),
    let content (kind : RequestKind) (body : ReplyBody) : Field :=
      ({ kind := kind, tag := tag, body := body, linkRefusal := false } : Reply).content
    let known (bytes : List Byte) : Field := bytes.map some
    let flag (b : Bool) : List Byte := leBytes 1 (if b then 1 else 0)
    let digest (present : Option Digest) : Field := match present with
      | some v => known (leBytes 1 1 ++ leBytes 8 v.toNat)
      | none => known (leBytes 1 0) ++ List.replicate 8 none
    let entry (x : Destination) : List Byte :=
      leBytes 1 (0x10 + x.drive.val) ++ leBytes 2 x.generation ++ leBytes 1 x.state.code ++ flag x.verified
        ++ leBytes 1 (lossCode x.lossCause) ++ leBytes 4 x.chunksWritten ++ leBytes 4 x.chunksVerified ++ leBytes 1 x.repairsUsed
    let result : Field :=
      known (leBytes 2 record.clip ++ leBytes 1 record.outcome.code ++ leBytes 1 (causeCode record.cause)) ++ digest record.digest
        ++ known (leBytes 1 (recheckCode record.recheck) ++ flag record.sourceUnstable ++ leBytes 1 record.dests.length
          ++ record.dests.flatMap entry)
    let identity (bit4 : Bool) (capacity : Option Nat) (mediaId : Option MediaId) : Field :=
      match capacity, mediaId with
      | some cap, some id => known (leBytes 1 (1 + if bit4 then 16 else 0) ++ leBytes 8 cap ++ id.toList)
      | _, _ => known (leBytes 1 (if bit4 then 16 else 0)) ++ List.replicate 24 none
    let cardRecord (x : CardStatus) : Field :=
      known (leBytes 1 x.presence.code ++ leBytes 2 x.generation) ++ identity x.hold x.capacity x.mediaId
        ++ known (leBytes 2 x.clipQueue ++ leBytes 1 x.repairs ++ leBytes 1 x.passList ++ leBytes 1 x.priority)
    let driveRecord (x : DriveStatus) : Field :=
      known (leBytes 1 x.presence.code ++ leBytes 2 x.generation) ++ identity false x.capacity x.mediaId
        ++ known (leBytes 1 x.writeQueue ++ leBytes 2 x.backlog ++ flag x.latch ++ leBytes 2 x.claims ++ leBytes 1 x.passList
          ++ leBytes 1 x.lowMark ++ leBytes 1 x.highMark ++ leBytes 1 x.writeRun ++ leBytes 1 x.verifyRun)
    content .queryClip (.query c) =
      known ([0x87, tag, 0x00] ++ leBytes 2 c.id ++ leBytes 1 c.state.code ++ leBytes 1 (pendingCode c.pendingOutcome)
        ++ leBytes 1 (causeCode c.cause) ++ leBytes 1 c.card.val ++ leBytes 2 c.generation ++ leBytes 1 c.policy.code
        ++ leBytes 1 c.required ++ leBytes 8 c.streamLength ++ leBytes 4 c.chunkCount ++ leBytes 4 c.chunksRead
        ++ leBytes 1 c.inFlight ++ leBytes 1 (recheckCode c.recheck) ++ flag c.sourceUnstable)
      ++ digest c.digest ++ known (leBytes 1 c.dests.length ++ c.dests.flatMap entry) ∧
    content .takeResult (.taken record) = known [0x89, tag, 0x00] ++ result ∧
    content .peekResult .noResult = known [0x88, tag, 0x00, 0x00, 0x00] ∧
    content .peekResult (.peeked n record) = known ([0x88, tag, 0x00] ++ leBytes 2 n) ++ result ∧
    content .status (.status r) =
      known ([0x82, tag, 0x00] ++ leBytes 1 r.engine.code) ++ r.cards.flatMap cardRecord ++ r.drives.flatMap driveRecord
      ++ known (leBytes 2 r.free ++ leBytes 1 r.filling ++ leBytes 2 r.held ++ leBytes 2 r.heldRepair
        ++ r.inService.flatMap (fun x => leBytes 1 (purposeCode x)) ++ leBytes 1 r.reserveMark ++ leBytes 1 r.ceiling
        ++ leBytes 2 r.records ++ leBytes 2 r.results ++ leBytes 4 r.reserved ++ leBytes 4 r.room
        ++ leBytes 1 r.outstanding ++ leBytes 1 r.notices ++ leBytes 2 r.lost ++ leBytes 2 r.interval
        ++ r.counters.flatMap (fun x => leBytes 4 x.value)
        ++ leBytes 4 (r.counters.zipIdx.map (fun x => if x.1.saturated then 2 ^ x.2 else 0)).sum) ∧
    (∀ x : CardStatus, (cardRecord x).length = 33) ∧ ∀ x : DriveStatus, (driveRecord x).length = 39) ∧
  RequestKind.all.map RequestKind.code = (List.range 0x12).map (fun n => n + 1) ∧
  [EngineState.running, .resetting].map EngineState.code = [0, 1] ∧
  [CardPresence.empty, .settling, .identifying, .ready, .ejected, .faulted].map CardPresence.code = [0, 1, 2, 3, 4, 5] ∧
  [DrivePresence.absent, .settling, .identifying, .online, .released, .faulted].map DrivePresence.code = [0, 1, 2, 3, 4, 5] ∧
  [ClipState.queued, .reading, .rechecking, .draining, .closing, .done, .degraded, .failed, .cancelled].map ClipState.code
    = [0, 1, 2, 3, 4, 5, 6, 7, 8] ∧
  [some PendingOutcome.failed, some .cancelled, none].map pendingCode = [7, 8, 0xFF] ∧
  [Policy.none, .readback, .readbackRecheck].map Policy.code = [0, 1, 2] ∧
  [none, some Cause.cancelledByRequest, some .engineReset, some .sourceLost, some .sourceReadError, some .sourceUnstable,
    some .recheckMismatch, some .tooFewCopies].map causeCode = [0, 1, 2, 3, 4, 5, 6, 7] ∧
  [DestState.active, .copied, .lost].map DestState.code = [0, 1, 2] ∧
  [none, some LossCause.driveRemoved, some .driveFault, some .verifyFailed, some .noSource, some .repairOverflow].map lossCode
    = [0, 1, 2, 3, 4, 5] ∧
  [none, some RecheckState.pending, some .passed, some .mismatch, some .notDone].map recheckCode = [0, 1, 2, 3, 4] ∧
  [none, some Purpose.copy, some .repair].map purposeCode = [0, 1, 2] ∧
  [Status.ok, .resetting, .tableFull, .idInUse, .badExtents, .badDestinations, .badCopies, .cardNotReady, .staleCard, .sourceRange,
    .driveNotOnline, .staleDrive, .lengthMismatch, .targetRange, .targetOverlap, .targetBusy, .checkStoreFull, .noSuchClip,
    .clipTerminal, .notFirst, .notYetRead, .badValue, .portBusy, .badState, .claimed, .passThroughFull, .badBody, .tagInUse,
    .linkBusy].map Status.code = List.range 0x1D ∧
  [Status.mediaError, .timeout, .sourceRemoved, .driveRemoved, .portFaulted, .aborted].map Status.code
    = [0x20, 0x21, 0x22, 0x23, 0x24, 0x25]

/-- A notice raised while the queue holds fewer than 64 joins its tail; one raised while it holds 64 is dropped and the lost count
rises by 1, staying at 65,535.
A notice has tag 0 and the layout R177 gives its kind; those of the five kinds follow, SUMMARY with its ports in the order of R180,
and the codes of events, outcomes and bands. -/
def Obligations.NoticeRaisedOrLost : Prop :=
  (∀ (s : State) (n : Notice),
     (s.link.notices.length < 64 → s.raise n = { s with link := { s.link with notices := s.link.notices ++ [n] } }) ∧
     (64 ≤ s.link.notices.length → s.link.lost < 65535 → s.raise n = { s with link := { s.link with lost := s.link.lost + 1 } }) ∧
     (64 ≤ s.link.notices.length → 65535 ≤ s.link.lost → s.raise n = s)) ∧
  (∀ (p : CardId) (d : DriveId) (g id n : Nat) (ev : CardEvent) (ev' : DriveEvent) (outcome : ClipState),
    let known (bytes : List Byte) : Field := bytes.map some
    (Notice.card p g ev).content = known ([0xC1, 0x00] ++ leBytes 1 p.val ++ leBytes 2 g ++ leBytes 1 ev.code) ∧
    (Notice.drive d g ev').content = known ([0xC2, 0x00] ++ leBytes 1 (0x10 + d.val) ++ leBytes 2 g ++ leBytes 1 ev'.code) ∧
    (Notice.clipEnded id outcome).content = known ([0xC3, 0x00] ++ leBytes 2 id ++ leBytes 1 outcome.code) ∧
    (Notice.gap n).content = known ([0xC5, 0x00] ++ leBytes 2 n)) ∧
  (∀ f : SummaryFigures, (Notice.summary f).content =
    ([0xC4, 0x00] ++ leBytes 1 f.sequence ++ leBytes 2 f.length
      ++ f.cards.flatMap (fun x => leBytes 4 x.chunksRead ++ leBytes 1 x.readRetries.code)
      ++ f.drives.flatMap (fun x =>
          leBytes 4 x.chunksWritten ++ leBytes 1 x.writeRetries.code ++ leBytes 1 x.mismatches.code ++ leBytes 1 x.peakQueue)
      ++ leBytes 2 f.free ++ leBytes 2 f.lowestFree ++ leBytes 4 f.framesDiscarded : List Byte).map some) ∧
  [CardEvent.ready, .removed, .faulted, .idle].map CardEvent.code = [1, 2, 3, 4] ∧
  [DriveEvent.online, .removed, .faulted, .unsupported].map DriveEvent.code = [1, 2, 3, 4] ∧
  [ClipState.done, .degraded, .failed, .cancelled].map ClipState.code = [5, 6, 7, 8] ∧
  [Band.zero, .one, .few, .some, .many, .heavy].map Band.code = [0, 1, 2, 3, 4, 5]

/-! ### HELLO, STATUS, CONFIGURE, CLEAR COUNTERS -/

/-- HELLO is answered in either engine state and changes nothing but the link's own bookkeeping of the request; its reply carries
the part's codes, the line rate and the sizes, byte for byte. -/
def Obligations.HelloAnswered : Prop :=
  ∀ (tag : Byte) (s : State), Takes s .hello tag [] →
    exec (.hello tag []) s = .next (s.answered .hello tag (.hello s.link.lineRate)) ∧
    ∀ rate : LineRate,
      ({ kind := .hello, tag := tag, body := .hello rate, linkRefusal := false } : Reply).content =
        ([0x81, tag, 0x00, 0x21, 0x5E, 0x40, 0x08, 1, (match rate with | .mbit3 => 3 | .mbit6 => 6 | .mbit12 => 12),
          8, 4, 0x00, 0x02, 0x00, 0x01, 0x00, 0x00, 0x10, 0x00, 8, 64, 0x20, 0x80] : List Byte).map some

/-- STATUS is answered in either engine state and changes nothing but the link's bookkeeping; its reply carries every block's part
as it stands, all taken at one moment (log 5). Its own tag is already outstanding. That the records stand from CP0 and from DP0 is
the model's choice (log 21). -/
def Obligations.StatusAnswered : Prop :=
  ∀ (tag : Byte) (s : State), Takes s .status tag [] → ∃ r : StatusReport,
    exec (.status tag []) s = .next (s.answered .status tag (.status r)) ∧
    r.engine = s.link.engine ∧ r.cards.length = 8 ∧ r.drives.length = 4 ∧
    (∀ p : CardId, r.cards[p.val]? = some
      { presence := (s.card p).presence, generation := (s.card p).generation, capacity := (s.card p).capacity,
        mediaId := (s.card p).mediaId, clipQueue := (s.card p).clipQueue.length, repairs := (s.card p).repairs.length,
        passList := (s.card p).passList.length, priority := s.arbiter.priority.get p, hold := s.arbiter.hold.get p }) ∧
    (∀ d : DriveId, r.drives[d.val]? = some
      { presence := (s.drive d).presence, generation := (s.drive d).generation, capacity := (s.drive d).capacity,
        mediaId := (s.drive d).mediaId, writeQueue := (s.drive d).writeQueue.length, backlog := (s.drive d).backlog.length,
        latch := (s.drive d).latch, claims := (s.drive d).claims.length, passList := (s.drive d).passList.length,
        lowMark := (s.drive d).lowMark, highMark := (s.drive d).highMark, writeRun := (s.drive d).writeRun,
        verifyRun := (s.drive d).verifyRun }) ∧
    r.free = s.slots.toList.countP (fun x => x.state = .free) ∧
    r.filling = s.slots.toList.countP (fun x => x.state = .filling) ∧
    r.held = s.slots.toList.countP (fun x => x.state = .held) ∧
    r.heldRepair = s.slots.toList.countP (fun x => x.state = .held ∧ x.purpose = some .repair) ∧
    r.free + r.filling + r.held = 512 ∧
    r.inService = s.arbiter.inService.toList ∧ r.reserveMark = s.arbiter.reserveMark ∧ r.ceiling = s.arbiter.ceiling ∧
    r.records = s.table.clips.length ∧ r.results = s.table.results.length ∧
    r.reserved = s.store.reserved ∧ r.room = 1048576 - s.store.reserved ∧
    r.outstanding = s.link.outstanding.length + 1 ∧ r.notices = s.link.notices.length ∧ r.lost = s.link.lost ∧
    r.interval = s.summary.interval ∧ r.counters = s.summary.cumulative.toList

/-- CONFIGURE with no pair at fault records every setting its list names, and keeps every other; nothing else changes.
CONFIGURE with a pair at fault is answered BAD_VALUE with the position of the first such pair, and changes no setting and
nothing else. Where a list repeats a setting, that the first of its pairs gives the value by which the marks are judged is the
model's choice (log 7). A setting code stands for the setting that R177's table gives it, and no other code for one; a value is in
range as R172 gives. -/
def Obligations.ConfigureAnswered : Prop :=
  (∀ (tag : Byte) (body : List Byte) (pairs : List (Nat × Nat)) (s : State),
     Takes s .configure tag body → decodeConfigure body = some pairs → s.link.engine = .running →
     (∀ i, ¬ s.AtFault pairs i) → ∃ t,
     exec (.configure tag body) s = .next t ∧
     (∀ st : Setting, t.settingValue st = s.valueAfter pairs st) ∧
     t = { (s.answered .configure tag .done) with
           arbiter := { s.arbiter with reserveMark := t.arbiter.reserveMark, ceiling := t.arbiter.ceiling },
           summary := { s.summary with interval := t.summary.interval },
           drives := t.drives } ∧
     ∀ d, t.drive d = { s.drive d with lowMark := (t.drive d).lowMark, highMark := (t.drive d).highMark,
                                        writeRun := (t.drive d).writeRun, verifyRun := (t.drive d).verifyRun }) ∧
  (∀ (tag : Byte) (body : List Byte) (pairs : List (Nat × Nat)) (s : State) (i : Nat),
     Takes s .configure tag body → decodeConfigure body = some pairs → s.link.engine = .running →
     s.AtFault pairs i → (∀ j, j < i → ¬ s.AtFault pairs j) →
     exec (.configure tag body) s = .next (s.answered .configure tag (.pairAtFault i))) ∧
  (settingOfCode 0x01 = some .reserveMark ∧ settingOfCode 0x02 = some .ceiling ∧ settingOfCode 0x03 = some .interval ∧
   (∀ d : DriveId, settingOfCode (0x10 + d.val) = some (.lowMark d) ∧ settingOfCode (0x14 + d.val) = some (.highMark d) ∧
     settingOfCode (0x18 + d.val) = some (.writeRun d) ∧ settingOfCode (0x1C + d.val) = some (.verifyRun d)) ∧
   ∀ code, ¬ (0x01 ≤ code ∧ code ≤ 0x03) → ¬ (0x10 ≤ code ∧ code ≤ 0x1F) → settingOfCode code = none) ∧
  (∀ v : Nat,
     (Setting.reserveMark.inRange v = true ↔ v ≤ 128) ∧ (Setting.ceiling.inRange v = true ↔ v ≤ 7) ∧
     (Setting.interval.inRange v = true ↔ 250 ≤ v ∧ v ≤ 10000 ∧ v % 250 = 0) ∧
     ∀ d : DriveId, ((Setting.highMark d).inRange v = true ↔ 16 ≤ v ∧ v ≤ 96) ∧ ((Setting.lowMark d).inRange v = true ↔ 4 ≤ v) ∧
       ((Setting.writeRun d).inRange v = true ↔ 1 ≤ v ∧ v ≤ 64) ∧ ((Setting.verifyRun d).inRange v = true ↔ 1 ≤ v ∧ v ≤ 64))

/-- CLEAR COUNTERS: refused while RESETTING; otherwise every cumulative counter is 0 with its flag clear and the interval figures,
the sequence and the timer stay. An event counted before it is cleared with the rest, one counted after it is the first; the
interval count of the event rises in both orders; and STATUS reports the counters before it or the zeros after it. -/
def Obligations.ClearCountersClears : Prop :=
  ∀ (tag : Byte) (s : State), Takes s .clearCounters tag [] →
    (s.link.engine = .resetting →
      exec (.clearCounters tag []) s = .next (s.answered .clearCounters tag (.refused .resetting))) ∧
    (s.link.engine = .running → ∃ t, exec (.clearCounters tag []) s = .next t ∧
      t = { (s.answered .clearCounters tag .done) with
            summary := { s.summary with cumulative := Vector.replicate 29 { value := 0, saturated := false } } } ∧
      s.report.counters = s.summary.cumulative.toList ∧
      t.report.counters = List.replicate 29 { value := 0, saturated := false } ∧
      ∀ i, (t.tally i).summary.cumulative.get i = { value := 1, saturated := false } ∧
        (t.tally i).summary.counts.get i = (s.tally i).summary.counts.get i ∧
        ∃ u, exec (.clearCounters tag []) (s.tally i) = .next u ∧
          u.summary.cumulative.get i = { value := 0, saturated := false } ∧
          u.summary.counts.get i = (s.tally i).summary.counts.get i)

/-! ### PORT SET, EJECT CARD, RELEASE DRIVE, RESTART PORT -/

/-- PORT SET in a RUNNING engine: a priority above 7 is answered BAD_VALUE and changes neither value; otherwise both values are
recorded, in every presence state, and nothing else changes.
EJECT CARD in a RUNNING engine, case by case in R55's order; on OK the port enters EJECTED and drives CREL.
RELEASE DRIVE in a RUNNING engine, case by case in R106's order; on OK the port enters RELEASED and drives DREL. -/
def Obligations.PortRequestsAnswered : Prop :=
  (∀ (tag : Byte) (body : List Byte) (q : PortSetRequest) (s : State),
     Takes s .portSet tag body → decodePortSet body = some q → s.link.engine = .running →
     (7 < q.priority → exec (.portSet tag body) s = .next (s.answered .portSet tag (.refused .badValue))) ∧
     (q.priority ≤ 7 → exec (.portSet tag body) s = .next
       { (s.answered .portSet tag .done) with
         arbiter := { s.arbiter with priority := s.arbiter.priority.set q.card.val q.priority q.card.isLt,
                                     hold := s.arbiter.hold.set q.card.val q.hold q.card.isLt } })) ∧
  (∀ (tag : Byte) (body : List Byte) (p : CardId) (g : Nat) (s : State),
     Takes s .ejectCard tag body → decodeEject body = some (p, g) → s.link.engine = .running →
     exec (.ejectCard tag body) s = .next
       (if (s.card p).presence ≠ .ready then s.answered .ejectCard tag (.refused .cardNotReady)
        else if g ≠ (s.card p).generation then s.answered .ejectCard tag (.refused .staleCard)
        else if (s.card p).clipQueue ≠ [] ∨ (s.card p).passList ≠ [] ∨ (s.card p).op ≠ none then
          s.answered .ejectCard tag (.refused .portBusy)
        else (s.setCard p { s.card p with presence := .ejected, crel := true }).answered .ejectCard tag (.port (.card p) g))) ∧
  (∀ (tag : Byte) (body : List Byte) (d : DriveId) (g : Nat) (s : State),
     Takes s .releaseDrive tag body → decodeRelease body = some (d, g) → s.link.engine = .running →
     exec (.releaseDrive tag body) s = .next
       (if (s.drive d).presence ≠ .online then s.answered .releaseDrive tag (.refused .driveNotOnline)
        else if g ≠ (s.drive d).generation then s.answered .releaseDrive tag (.refused .staleDrive)
        else if (s.drive d).claims ≠ [] ∨ (s.drive d).passList ≠ [] ∨ (s.drive d).op ≠ none then
          s.answered .releaseDrive tag (.refused .portBusy)
        else (s.setDrive d { s.drive d with presence := .released, drel := true }).answered .releaseDrive tag
          (.port (.drive d) g)))

/-- Entry to IDENTIFYING, by the settle timer with a medium on the line and by RESTART PORT: a new generation that no record of
the port names, capacity and media id absent, the identification in flight, the lamp not driven; a drive port restarted also
restarts its alternation with the latch clear. RESTART PORT in another state is answered BAD_STATE. The table names at most
256 generations of a port. -/
def Obligations.IdentificationBegins : Prop :=
  (∀ (p : CardId) (s : State), (s.cardGenerations p).length ≤ 256 → ∃ g, NextGeneration (s.cardGenerations p) (s.card p).generation g ∧
    let begun : CardPort :=
      { s.card p with
        presence := .identifying, settleTimer := false, generation := g, capacity := none, mediaId := none, crel := false,
        op := some { task := .identification none, done := 0, retries := 0, filled := 0, check := 0xFFFFFFFF,
                     remainder := 0xFFFFFFFFFFFFFFFF } }
    ((s.card p).presence = .settling → (s.card p).settleTimer = true → (s.card p).detect = true →
      exec (.cardSettleTimerExpiry p) s = .next (s.setCard p begun)) ∧
    (∀ tag body, Takes s .restartPort tag body → decodeRestart body = some (.card p) → s.link.engine = .running →
      exec (.restartPort tag body) s = .next
        (if (s.card p).presence = .faulted ∨ (s.card p).presence = .ejected then
           (s.setCard p begun).answered .restartPort tag (.port (.card p) g)
         else s.answered .restartPort tag (.refused .badState)))) ∧
  (∀ (d : DriveId) (s : State), (s.driveGenerations d).length ≤ 256 → ∃ g, NextGeneration (s.driveGenerations d) (s.drive d).generation g ∧
    let begun : DrivePort :=
      { s.drive d with
        presence := .identifying, settleTimer := false, generation := g, capacity := none, mediaId := none, drel := false,
        op := some { task := .identification none, done := 0, retries := 0, check := 0xFFFFFFFF } }
    ((s.drive d).presence = .settling → (s.drive d).settleTimer = true → (s.drive d).detect = true →
      exec (.driveSettleTimerExpiry d) s = .next (s.setDrive d begun)) ∧
    (∀ tag body, Takes s .restartPort tag body → decodeRestart body = some (.drive d) → s.link.engine = .running →
      exec (.restartPort tag body) s = .next
        (if (s.drive d).presence = .faulted ∨ (s.drive d).presence = .released then
           (s.setDrive d { begun with phase := .write, runCount := 0, latch := false }).answered .restartPort tag
             (.port (.drive d) g)
         else s.answered .restartPort tag (.refused .badState))))

/-! ### ADMIT CLIP -/

/-- ADMIT CLIP: the first of the sixteen checks, in R4's order, that fails decides the reply, for checks 10 to 15 with the first
failing destination; and a refused admission changes nothing but the link's bookkeeping. -/
def Obligations.AdmitFirstFailingCheck : Prop :=
  ∀ (tag : Byte) (body : List Byte) (q : AdmitRequest) (s : State) (refusal : ReplyBody),
    Takes s .admitClip tag body → decodeAdmit body = some q → (s.admissionChecks q).findSome? id = some refusal →
    exec (.admitClip tag body) s = .next (s.answered .admitClip tag refusal)

/-- An accepted ADMIT CLIP of a stream that is not empty: the record is created QUEUED and promoted to READING when the port reads
no clip, its claims are placed, its checks reserved with empty entries, and its id joins its port's clip queue; nothing else
changes. No clip of the port stands QUEUED while the port reads none, as R9 keeps it. -/
def Obligations.AdmitClipAccepted : Prop :=
  ∀ (tag : Byte) (body : List Byte) (q : AdmitRequest) (s : State),
    Takes s .admitClip tag body → decodeAdmit body = some q → (∀ x ∈ s.admissionChecks q, x = none) → 0 < q.length →
    (s.portReads q.card = true ∨ s.oldestQueued q.card = none) → ∃ t,
    exec (.admitClip tag body) s = .next t ∧
    t = { s with link := s.link.answered .admitClip tag (.admitted q.clip ((q.length + 2047) / 2048)),
                 table := t.table, store := t.store, cards := t.cards, drives := t.drives } ∧
    t.table.results = s.table.results ∧
    t.table.clips = s.table.clips ++
      [{ id := q.clip, card := q.card, generation := q.generation, extents := q.extents,
         streamLength := (q.extents.map Extent.count).sum, chunkCount := (q.length + 2047) / 2048, policy := q.policy,
         required := q.required,
         dests := q.dests.map (fun x =>
           { drive := x.drive, generation := x.generation, targets := x.targets, state := .active, verified := false,
             lossCause := none, chunksWritten := 0, chunksVerified := 0, repairsUsed := 0 }),
         state := if s.portReads q.card then .queued else .reading, pendingOutcome := none, cause := none, chunksRead := 0,
         remainder := 0xFFFFFFFFFFFFFFFF, digest := none,
         recheck := if q.policy = .readbackRecheck then some .pending else none, sourceUnstable := false, inFlight := 0 }] ∧
    t.store = { rows := s.store.rows ++ [{ clip := q.clip, entries := List.replicate ((q.length + 2047) / 2048) none }],
                reserved := s.store.reserved + (q.length + 2047) / 2048 } ∧
    t.cards = (s.setCard q.card { s.card q.card with clipQueue := (s.card q.card).clipQueue ++ [q.clip] }).cards ∧
    ∀ d, t.drive d = { s.drive d with claims := (t.drive d).claims } ∧
      (t.drive d).claims.Perm ((s.drive d).claims ++ q.claimsOn d) ∧
      ((s.drive d).claims.Pairwise (fun a b => a.first ≤ b.first) → (t.drive d).claims.Pairwise (fun a b => a.first ≤ b.first))

/-- An accepted ADMIT CLIP of an empty stream is DONE at once: digest 0, every destination COPIED, on the result list, no claim
placed, no check reserved, not on the clip queue, CLIP ENDED raised. In a state whose table is exact. -/
def Obligations.AdmitEmptyClipDone : Prop :=
  ∀ (tag : Byte) (body : List Byte) (q : AdmitRequest) (s : State),
    TableExact s → Takes s .admitClip tag body → decodeAdmit body = some q → (∀ x ∈ s.admissionChecks q, x = none) →
    q.length = 0 → (s.portReads q.card = true ∨ s.oldestQueued q.card = none) →
    exec (.admitClip tag body) s = .next
      { s with
        link := ((s.link.answered .admitClip tag (.admitted q.clip 0)).raise (.clipEnded q.clip .done)),
        table :=
          { clips := s.table.clips ++
              [{ id := q.clip, card := q.card, generation := q.generation, extents := [], streamLength := 0, chunkCount := 0,
                 policy := q.policy, required := q.required,
                 dests := q.dests.map (fun x =>
                   { drive := x.drive, generation := x.generation, targets := [], state := .copied,
                     verified := decide (q.policy ≠ .none), lossCause := none, chunksWritten := 0, chunksVerified := 0,
                     repairsUsed := 0 }),
                 state := .done, pendingOutcome := none, cause := none, chunksRead := 0, remainder := 0xFFFFFFFFFFFFFFFF,
                 digest := some 0, recheck := if q.policy = .readbackRecheck then some .passed else none,
                 sourceUnstable := false, inFlight := 0 }],
            results := s.table.results ++ [q.clip] },
        store := { s.store with rows := s.store.rows ++ [{ clip := q.clip, entries := [] }] } }

/-! ### The table's other requests -/

/-- CANCEL CLIP of a clip in QUEUED, READING, RECHECKING or DRAINING with no operation in flight: the clip is CANCELLED at once,
its entries and claims are gone, it has left its clip queue and joined the result list, and the reply carries CANCELLED.
CANCEL CLIP of such a clip with operations in flight: the clip waits in CLOSING with its queued work gone and its claims,
counts and digest kept, and the reply carries CLOSING. In both cases the card port's recheck state for the clip is cleared, unless its
read is in flight (log 11), and the oldest QUEUED clip of the port is promoted where R9 gives it. A drive port whose last work this
takes away at a free point settles its run (log 17). -/
def Obligations.CancelClosesClip : Prop :=
  (∀ (tag : Byte) (body : List Byte) (id : Nat) (c : Clip) (s : State),
     Takes s .cancelClip tag body → decodeClipId body = some id → id ≠ 0 → s.link.engine = .running →
     s.clip? id = some c → c.state.isOpen = true → c.inFlight = 0 → ∃ t,
     exec (.cancelClip tag body) s = .next t ∧
     t.clip? id = some { c with state := .cancelled, pendingOutcome := none, cause := some .cancelledByRequest,
                                recheck := if c.recheck = some .pending then some .notDone else c.recheck } ∧
     OthersKept c .cancelled s t ∧ t.table.clips.map Clip.id = s.table.clips.map Clip.id ∧ t.table.results = s.table.results ++ [id] ∧
     t.link = ((if id ∈ (s.card c.card).clipQueue ∧ (s.card c.card).clipQueue.filter (fun k => k ≠ id) = [] ∧
          (s.card c.card).presence = .ready then
        s.link.raise (.card c.card (s.card c.card).generation .idle) else s.link).raise (.clipEnded id .cancelled)).answered
          .cancelClip tag (.cancelled id .cancelled) ∧
     t.store = s.store ∧ t.arbiter = s.arbiter ∧ t.freeValues = s.freeValues ∧
     (∀ i, t.slot i = Slot.dropRef^[s.entriesOf id i] (s.slot i)) ∧
     (∀ d, t.drive d = (s.drive d).afterEvent
       { s.drive d with claims := (s.drive d).claims.filter (fun k => k.clip ≠ id),
                        writeQueue := (s.drive d).writeQueue.filter (fun e => e.clip ≠ id),
                        backlog := (s.drive d).backlog.filter (fun e => e.clip ≠ id) }) ∧
     (∀ p, p ≠ c.card → t.card p = s.card p) ∧
     t.card c.card = { s.card c.card with
       clipQueue := (s.card c.card).clipQueue.filter (fun k => k ≠ id),
       repairs := (s.card c.card).repairs.filter (fun e => e.clip ≠ id),
       recheck := if (s.card c.card).recheck.any (fun r => r.clip = id) && !(s.card c.card).inRecheckRead then none
         else (s.card c.card).recheck } ∧
     t.summary = State.watermarked s t s.summary) ∧
  (∀ (tag : Byte) (body : List Byte) (id : Nat) (c : Clip) (s : State),
     Takes s .cancelClip tag body → decodeClipId body = some id → id ≠ 0 → s.link.engine = .running →
     s.clip? id = some c → c.state.isOpen = true → 0 < c.inFlight → ∃ t,
     exec (.cancelClip tag body) s = .next t ∧
     t.clip? id = some { c with state := .closing, pendingOutcome := some .cancelled, cause := some .cancelledByRequest } ∧
     OthersKept c .closing s t ∧ t.table.clips.map Clip.id = s.table.clips.map Clip.id ∧ t.table.results = s.table.results ∧
     t.link = s.link.answered .cancelClip tag (.cancelled id .closing) ∧
     t.store = s.store ∧ t.arbiter = s.arbiter ∧ t.freeValues = s.freeValues ∧
     (∀ i, t.slot i = Slot.dropRef^[s.entriesOf id i] (s.slot i)) ∧
     (∀ d, t.drive d = (s.drive d).afterEvent
       { s.drive d with writeQueue := (s.drive d).writeQueue.filter (fun e => e.clip ≠ id),
                        backlog := (s.drive d).backlog.filter (fun e => e.clip ≠ id) }) ∧
     (∀ p, p ≠ c.card → t.card p = s.card p) ∧
     t.card c.card = { s.card c.card with
       repairs := (s.card c.card).repairs.filter (fun e => e.clip ≠ id),
       recheck := if (s.card c.card).recheck.any (fun r => r.clip = id) && !(s.card c.card).inRecheckRead then none
         else (s.card c.card).recheck } ∧
     t.summary = State.watermarked s t s.summary)

/-- The table's requests that only read, in a RUNNING engine: QUERY CLIP answers the record or NO_SUCH_CLIP; READ CHECKS answers by
R146's first case that applies, with the recorded checks in chunk order; CANCEL CLIP of an unknown clip or of one terminal or
CLOSING is refused. None changes anything but the link's bookkeeping. -/
def Obligations.TableRequestsThatRead : Prop :=
  ∀ (tag : Byte) (body : List Byte) (s : State), s.link.engine = .running →
    (∀ id, Takes s .queryClip tag body → decodeClipId body = some id →
      exec (.queryClip tag body) s = .next (s.answered .queryClip tag
        (match (if id = 0 then none else s.clip? id) with | some c => .query c | none => .refused .noSuchClip))) ∧
    (∀ id, Takes s .cancelClip tag body → decodeClipId body = some id →
      (id = 0 ∨ s.clip? id = none → exec (.cancelClip tag body) s = .next (s.answered .cancelClip tag (.refused .noSuchClip))) ∧
      (∀ c, id ≠ 0 → s.clip? id = some c → c.state.isTerminal = true ∨ c.state = .closing →
        exec (.cancelClip tag body) s = .next (s.answered .cancelClip tag (.refused .clipTerminal)))) ∧
    (∀ q : ChecksRequest, Takes s .readChecks tag body → decodeReadChecks body = some q →
      (q.clip = 0 ∨ s.clip? q.clip = none →
        exec (.readChecks tag body) s = .next (s.answered .readChecks tag (.refused .noSuchClip))) ∧
      (∀ c, q.clip ≠ 0 → s.clip? q.clip = some c →
        (q.count = 0 ∨ 1024 < q.count →
          exec (.readChecks tag body) s = .next (s.answered .readChecks tag (.refused .badValue))) ∧
        (1 ≤ q.count → q.count ≤ 1024 → c.chunksRead < q.first + q.count →
          exec (.readChecks tag body) s = .next (s.answered .readChecks tag (.notYetRead c.chunksRead))) ∧
        (1 ≤ q.count → q.count ≤ 1024 → q.first + q.count ≤ c.chunksRead → ∀ values : List Check,
          values.length = q.count → (∀ i, i < q.count → s.store.lookup q.clip (q.first + i) = values[i]?) →
          exec (.readChecks tag body) s = .next (s.answered .readChecks tag
            (.checks q.clip q.first q.count c.chunksRead c.chunkCount values)))))

/-- PEEK RESULT reads the head of the result list without removing it: RESETTING, an empty list's count of 0 with no record, or the
count and the head's record. It leaves the table, so a PEEK RESULT after it reads the same record. -/
def Obligations.PeekResultReadsHead : Prop :=
  ∀ (tag : Byte) (s : State), Takes s .peekResult tag [] →
    (s.link.engine = .resetting → exec (.peekResult tag []) s = .next (s.answered .peekResult tag (.refused .resetting))) ∧
    (s.link.engine = .running → s.table.results = [] →
      exec (.peekResult tag []) s = .next (s.answered .peekResult tag .noResult)) ∧
    (∀ id rest c, s.link.engine = .running → s.table.results = id :: rest → s.clip? id = some c →
      let body : ReplyBody := .peeked (rest.length + 1)
        { clip := c.id, outcome := c.state, cause := c.cause, digest := c.digest, recheck := c.recheck,
          sourceUnstable := c.sourceUnstable, dests := c.dests }
      exec (.peekResult tag []) s = .next (s.answered .peekResult tag body) ∧
      ∀ tag', Takes (s.answered .peekResult tag body) .peekResult tag' [] →
        exec (.peekResult tag' []) (s.answered .peekResult tag body) =
          .next ((s.answered .peekResult tag body).answered .peekResult tag' body)) ∧
    ({ kind := .peekResult, tag := tag, body := .noResult, linkRefusal := false } : Reply).content =
      ([0x88, tag, 0x00, 0x00, 0x00] : List Byte).map some ∧
    ∀ (n : Nat) (r : ResultRecord), ({ kind := .peekResult, tag := tag, body := .peeked n r, linkRefusal := false } : Reply).content =
      ([0x88, tag, 0x00] ++ leBytes 2 n : List Byte).map some ++ r.field

/-- TAKE RESULT in a RUNNING engine: NO_SUCH_CLIP, NOT_FIRST, or the head is taken: its record leaves the table and the list, its
reservation and checks leave the store, the reply carries the record, and a repeated request is answered NO_SUCH_CLIP. -/
def Obligations.TakeResultTakesHead : Prop :=
  ∀ (tag : Byte) (body : List Byte) (id : Nat) (s : State),
    Takes s .takeResult tag body → decodeClipId body = some id → s.link.engine = .running →
    (id = 0 ∨ s.clip? id = none → exec (.takeResult tag body) s = .next (s.answered .takeResult tag (.refused .noSuchClip))) ∧
    (∀ c, id ≠ 0 → s.clip? id = some c → s.table.results.head? ≠ some id →
      exec (.takeResult tag body) s = .next (s.answered .takeResult tag (.refused .notFirst))) ∧
    (∀ c rest, id ≠ 0 → s.clip? id = some c → s.table.results = id :: rest →
      exec (.takeResult tag body) s = .next
        { (s.answered .takeResult tag (.taken
            { clip := c.id, outcome := c.state, cause := c.cause, digest := c.digest, recheck := c.recheck,
              sourceUnstable := c.sourceUnstable, dests := c.dests })) with
          table := { clips := s.table.clips.filter (fun x => x.id ≠ id), results := rest },
          store := { rows := s.store.rows.filter (fun r => r.clip ≠ id), reserved := s.store.reserved - c.chunkCount } } ∧
      ∀ t, exec (.takeResult tag body) s = .next t → t.clip? id = none ∧ ∀ n, t.store.lookup id n = none)

/-! ### Pass-through requests -/

/-- CARD READ, DRIVE READ and DRIVE WRITE that pass every check of R149 to R151 join the tail of their port's list with no reply yet;
nothing else changes. -/
def Obligations.PassThroughAccepted : Prop :=
  ∀ (tag : Byte) (body : List Byte) (q : PassRequest) (s : State), s.link.engine = .running → 1 ≤ q.count → q.count ≤ 64 →
    let waiting : Link := { s.link with receiver := .hunt, gapTimer := false, outstanding := s.link.outstanding ++ [tag] }
    let record (kind : PassKind) : PassRecord :=
      { tag := tag, kind := kind, generation := q.generation, first := q.first, count := q.count, data := q.data }
    (∀ p cap, Takes s .cardRead tag body → decodeCardRead body = some (p, q) → (s.card p).presence = .ready →
      q.generation = (s.card p).generation → (s.card p).capacity = some cap → q.first + q.count ≤ cap →
      (s.card p).passList.length < 4 →
      exec (.cardRead tag body) s = .next
        { (s.setCard p { s.card p with passList := (s.card p).passList ++ [record .cardRead] }) with link := waiting }) ∧
    (∀ d cap, (s.drive d).presence = .online → q.generation = (s.drive d).generation → (s.drive d).capacity = some cap →
      q.first + q.count ≤ cap → (s.drive d).passList.length < 4 →
      (Takes s .driveRead tag body → decodeDriveRead body = some (d, q) →
        exec (.driveRead tag body) s = .next
          { (s.setDrive d { s.drive d with passList := (s.drive d).passList ++ [record .driveRead] }) with link := waiting }) ∧
      (Takes s .driveWrite tag body → decodeDriveWrite body = some (d, q) → q.data.length = 512 * q.count →
        (∀ k ∈ (s.drive d).claims, rangesOverlap q.first q.count k.first k.count = false) →
        exec (.driveWrite tag body) s = .next
          { (s.setDrive d { s.drive d with passList := (s.drive d).passList ++ [record .driveWrite] }) with link := waiting }))

/-- A pass-through request that fails a check is answered with the first that fails, in the order of R149, R150 and R151, and
changes no state at the port. -/
def Obligations.PassThroughRefused : Prop :=
  ∀ (tag : Byte) (body : List Byte) (q : PassRequest) (st : Status) (s : State),
    (∀ p, Takes s .cardRead tag body → decodeCardRead body = some (p, q) →
      FirstFails [ (s.link.engine = .resetting, Status.resetting), (q.count = 0 ∨ 64 < q.count, .badValue),
         ((s.card p).presence ≠ .ready, .cardNotReady), (q.generation ≠ (s.card p).generation, .staleCard),
         (∀ cap, (s.card p).capacity = some cap → cap < q.first + q.count, .sourceRange),
         (4 ≤ (s.card p).passList.length, .passThroughFull) ] st →
      exec (.cardRead tag body) s = .next (s.answered .cardRead tag (.refused st))) ∧
    (∀ d, Takes s .driveRead tag body → decodeDriveRead body = some (d, q) →
      FirstFails [ (s.link.engine = .resetting, Status.resetting), (q.count = 0 ∨ 64 < q.count, .badValue),
         ((s.drive d).presence ≠ .online, .driveNotOnline), (q.generation ≠ (s.drive d).generation, .staleDrive),
         (∀ cap, (s.drive d).capacity = some cap → cap < q.first + q.count, .targetRange),
         (4 ≤ (s.drive d).passList.length, .passThroughFull) ] st →
      exec (.driveRead tag body) s = .next (s.answered .driveRead tag (.refused st))) ∧
    (∀ d, Takes s .driveWrite tag body → decodeDriveWrite body = some (d, q) →
      FirstFails [ (s.link.engine = .resetting, Status.resetting),
         (q.count = 0 ∨ 64 < q.count ∨ q.data.length ≠ 512 * q.count, .badValue),
         ((s.drive d).presence ≠ .online, .driveNotOnline), (q.generation ≠ (s.drive d).generation, .staleDrive),
         (∀ cap, (s.drive d).capacity = some cap → cap < q.first + q.count, .targetRange),
         (∃ k ∈ (s.drive d).claims, rangesOverlap q.first q.count k.first k.count = true, .claimed),
         (4 ≤ (s.drive d).passList.length, .passThroughFull) ] st →
      exec (.driveWrite tag body) s = .next (s.answered .driveWrite tag (.refused st)))

/-! ### Detect lines, settle timers, identification -/

/-- A change of the detect line in EMPTY or ABSENT to show a medium enters SETTLING and starts the timer; in SETTLING every change
starts it afresh; the expiry with no medium on the line returns to EMPTY or ABSENT. None raises a notice, uses a generation or
changes anything else; going from EMPTY to SETTLING and back leaves the port as it was. -/
def Obligations.DetectLineSettles : Prop :=
  (∀ (p : CardId) (level : Bool) (s : State), level ≠ (s.card p).detect →
    ((s.card p).presence = .empty → level = true →
      exec (.cardDetectChange p level) s = .next
        (s.setCard p { s.card p with detect := true, presence := .settling, settleTimer := true })) ∧
    ((s.card p).presence = .settling →
      exec (.cardDetectChange p level) s = .next (s.setCard p { s.card p with detect := level, settleTimer := true }))) ∧
  (∀ (p : CardId) (s : State), (s.card p).presence = .settling → (s.card p).settleTimer = true → (s.card p).detect = false →
    exec (.cardSettleTimerExpiry p) s = .next
      (s.setCard p { s.card p with presence := .empty, settleTimer := false, capacity := none, mediaId := none })) ∧
  (∀ (d : DriveId) (level : Bool) (s : State), level ≠ (s.drive d).detect →
    ((s.drive d).presence = .absent → level = true →
      exec (.driveDetectChange d level) s = .next
        (s.setDrive d { s.drive d with detect := true, presence := .settling, settleTimer := true })) ∧
    ((s.drive d).presence = .settling →
      exec (.driveDetectChange d level) s = .next (s.setDrive d { s.drive d with detect := level, settleTimer := true }))) ∧
  (∀ (d : DriveId) (s : State), (s.drive d).presence = .settling → (s.drive d).settleTimer = true →
    (s.drive d).detect = false →
    exec (.driveSettleTimerExpiry d) s = .next
      (s.setDrive d { s.drive d with presence := .absent, settleTimer := false, capacity := none, mediaId := none }))

/-- CARD and DRIVE IDENTIFICATION: the media id answers the second command; a medium with 512-byte sectors and at most 2^40 of them
makes the port READY or ONLINE, any other FAULTED, the identity recorded with the capacity limited to 2^40, and the notice
carries the generation. Nothing else changes, but for a drive port's run that has ended (R117, log 17).
An identification that times out, or that fails with a media error after its retries, leaves the port FAULTED with no identity
and raises FAULTED with its generation; nothing else changes. -/
def Obligations.IdentificationEnds : Prop :=
  (∀ (p : CardId) (id : MediaId) (op : CardOp) (g : Geometry) (s : State),
    (s.card p).op = some op → op.task = .identification (some g) → op.done = 1 → s.EngineStays (.card p) →
    let ok : Bool := g.sectorSize = 512 && g.capacity ≤ 2 ^ 40
    exec (.cardIdentification p id) s = .next
      ((s.setCard p { s.card p with op := none, presence := if ok then .ready else .faulted,
                                    capacity := some (min g.capacity (2 ^ 40)), mediaId := some id }).raise
        (.card p (s.card p).generation (if ok then .ready else .faulted)))) ∧
  (∀ (d : DriveId) (id : MediaId) (op : DriveOp) (g : Geometry) (s : State),
    (s.drive d).op = some op → op.task = .identification (some g) → op.done = 1 → s.EngineStays (.drive d) →
    let ok : Bool := g.sectorSize = 512 && g.capacity ≤ 2 ^ 40
    let after : DrivePort := { s.drive d with op := none, presence := if ok then .online else .faulted,
                                              capacity := some (min g.capacity (2 ^ 40)), mediaId := some id }
    exec (.driveIdentification d id) s = .next
      ((s.setDrive d (if ok then after.idled else after)).raise
        (.drive d (s.drive d).generation (if ok then .online else .unsupported)))) ∧
  (∀ (p : CardId) (op : CardOp) (found : Option Geometry) (s : State),
    (s.card p).op = some op → op.task = .identification found → op.done ≤ 1 → s.EngineStays (.card p) →
    let failed : State :=
      (s.setCard p { s.card p with op := none, presence := .faulted, capacity := none, mediaId := none }).raise
        (.card p (s.card p).generation .faulted)
    ((s.card p).presence = .identifying → exec (.cardTimeout p) s = .next failed) ∧
    (3 ≤ op.retries → exec (.cardMediaError p) s = .next failed)) ∧
  (∀ (d : DriveId) (op : DriveOp) (found : Option Geometry) (s : State),
    (s.drive d).op = some op → op.task = .identification found → op.done ≤ 1 → s.EngineStays (.drive d) →
    let failed : State :=
      (s.setDrive d { s.drive d with op := none, presence := .faulted, capacity := none, mediaId := none }).raise
        (.drive d (s.drive d).generation .faulted)
    ((s.drive d).presence = .identifying → exec (.driveTimeout d) s = .next failed) ∧
    (2 ≤ op.retries → exec (.driveMediaError d) s = .next failed))

/-! ### Commands, chunks and checks -/

/-- CARD COMMAND ANSWER: a command that is not its operation's last completes and the next is issued at its first attempt.
Identification keeps the geometry; a copy or repair read places the data in its slot after the data before it and advances
the check, a copy read its working remainder too; a recheck read fills the scratch buffer and advances the port's fresh
remainder.
DRIVE COMMAND ANSWER: a sub-write's success, a sub-read's data, which enters the check of a verify read, and the geometry of an
identification each complete a command that is not the last, and the next is issued at its first attempt.
A media error before the last allowed attempt: the command is issued again, at most three times for a card and two for a drive;
a card's every retry is counted, a drive's that of a write command alone. Nothing else changes. -/
def Obligations.CommandsAdvance : Prop :=
  (∀ (p : CardId) (op : CardOp) (s : State), (s.card p).op = some op →
     (∀ found z cap, op.task = .identification found → op.done = 0 →
       exec (.cardCommandAnswer p (.geometry z cap)) s = .next
         (s.setCard p { s.card p with op := some { op with
           task := .identification (some { sectorSize := z, capacity := cap }), done := 1, retries := 0 } })) ∧
     (∀ run data, (s.cardCommands op.task)[op.done]? = some (.read run) → data.length = 512 * run.count →
       op.done + 1 < (s.cardCommands op.task).length →
       let moved : CardOp := { op with done := op.done + 1, retries := 0, filled := op.filled + data.length,
                                       check := checkAdvance op.check data }
       (∀ clip chunk slot, op.task = .copyRead clip chunk slot →
         exec (.cardCommandAnswer p (.data data)) s = .next
           ((s.setSlot slot { s.slot slot with data := placeBytes (s.slot slot).data op.filled data }).setCard p
             { s.card p with op := some { moved with remainder := remainderAdvance op.remainder data } })) ∧
       (∀ clip chunk drive slot, op.task = .repairRead clip chunk drive slot →
         exec (.cardCommandAnswer p (.data data)) s = .next
           ((s.setSlot slot { s.slot slot with data := placeBytes (s.slot slot).data op.filled data }).setCard p
             { s.card p with op := some moved })) ∧
       (∀ clip chunk, op.task = .recheckRead clip chunk →
         exec (.cardCommandAnswer p (.data data)) s = .next
           (s.setCard p { s.card p with
             op := some moved,
             scratch := placeBytes (s.card p).scratch op.filled data,
             recheck := (s.card p).recheck.map (fun r => { r with fresh := remainderAdvance r.fresh data }) })))) ∧
  (∀ (d : DriveId) (op : DriveOp) (s : State), (s.drive d).op = some op →
     (∀ found z cap, op.task = .identification found → op.done = 0 →
       exec (.driveCommandAnswer d (.geometry z cap)) s = .next
         (s.setDrive d { s.drive d with op := some { op with
           task := .identification (some { sectorSize := z, capacity := cap }), done := 1, retries := 0 } })) ∧
     (∀ entry run data, op.task = .chunkWrite entry → (s.driveCommands d op.task)[op.done]? = some (.write run data) →
       op.done + 1 < (s.driveCommands d op.task).length →
       exec (.driveCommandAnswer d .success) s = .next
         (s.setDrive d { s.drive d with op := some { op with done := op.done + 1, retries := 0 } })) ∧
     (∀ clip chunk run data, op.task = .verifyRead clip chunk → (s.driveCommands d op.task)[op.done]? = some (.read run) →
       data.length = 512 * run.count → op.done + 1 < (s.driveCommands d op.task).length →
       exec (.driveCommandAnswer d (.data data)) s = .next
         (s.setDrive d { s.drive d with op := some { op with done := op.done + 1, retries := 0,
                                                             check := checkAdvance op.check data } }))) ∧
  (∀ (p : CardId) (op : CardOp) (command : Command) (s : State),
    (s.card p).op = some op → (s.cardCommands op.task)[op.done]? = some command → op.retries < 3 →
    exec (.cardMediaError p) s = .next
      { (s.setCard p { s.card p with op := some { op with retries := op.retries + 1 } }) with
        summary := s.summary.counted (readRetriesCounter p) }) ∧
  (∀ (d : DriveId) (op : DriveOp) (command : Command) (s : State),
    (s.drive d).op = some op → (s.driveCommands d op.task)[op.done]? = some command → op.retries < 2 →
    let again : State := s.setDrive d { s.drive d with op := some { op with retries := op.retries + 1 } }
    exec (.driveMediaError d) s = .next
      (match command with
       | .write _ _ => { again with summary := s.summary.counted (writeRetriesCounter d) }
       | _ => again))

/-- R132: a stream is the sectors of its extents one after another in list order, and a chunk's runs are the stream sectors from
2,048 × i on, at most 2,048 of them and none beyond the stream's length, in one run for each extent they lie in: of a chunk of the
stream at least one run and at most as many as extents, each of 1 to 2,048 sectors. These runs of the source extents are what a
copy read, a repair read and a recheck read issue, and those of the destination's target extents what a verify read and a chunk
write issue, each sub-write with the slot's bytes at its offset. The worked clip 12 is cut as the manual's two tables show. -/
def Obligations.ChunksAreCut : Prop :=
  (∀ (extents : List Extent) (length i : Nat),
    let runs := chunkRuns extents length i
    extentSectors runs = (((extentSectors extents).take length).drop (2048 * i)).take 2048 ∧
    (∀ run ∈ runs, 1 ≤ run.count ∧ run.count ≤ 2048) ∧
    (∃ spanned, spanned.Sublist extents ∧
      List.Forall₂ (fun run e => e.first ≤ run.first ∧ run.first + run.count ≤ e.first + e.count) runs spanned) ∧
    (2048 * i < length → length = totalSectors extents →
      1 ≤ runs.length ∧ runs.length ≤ extents.length ∧ totalSectors runs = min 2048 (length - 2048 * i))) ∧
  (∀ (s : State) (clip chunk : Nat) (c : Clip), s.clip? clip = some c →
    let source : List Command := (chunkRuns c.extents c.streamLength chunk).map .read
    (∀ slot, s.cardCommands (.copyRead clip chunk slot) = source ∧
      ∀ d, s.cardCommands (.repairRead clip chunk d slot) = source) ∧
    s.cardCommands (.recheckRead clip chunk) = source ∧
    ∀ d x, c.destOn d = some x →
      let runs := chunkRuns x.targets c.streamLength chunk
      s.driveCommands d (.verifyRead clip chunk) = runs.map .read ∧
      ∀ slot, s.driveCommands d (.chunkWrite { slot := slot, clip := clip, chunk := chunk }) = runs.zipIdx.map (fun r =>
        .write r.1 (((s.slot slot).data.drop (512 * totalSectors (runs.take r.2))).take (512 * r.1.count)))) ∧
  (let source : List Extent := [⟨100, 3000⟩, ⟨50000, 2000⟩]
   let target : List Extent := [⟨10000, 1500⟩, ⟨40000, 1500⟩, ⟨90000, 2000⟩]
   chunkRuns source 5000 0 = [⟨100, 2048⟩] ∧
   chunkRuns source 5000 1 = [⟨2148, 952⟩, ⟨50000, 1096⟩] ∧
   chunkRuns source 5000 2 = [⟨51096, 904⟩] ∧
   chunkRuns target 5000 0 = [⟨10000, 1500⟩, ⟨40000, 548⟩] ∧
   chunkRuns target 5000 1 = [⟨40548, 952⟩, ⟨90000, 1096⟩] ∧
   chunkRuns target 5000 2 = [⟨91096, 904⟩])

/-- The chunk check, the clip digest and the frame check give the test values of R134 and R162, an empty stream has digest 0, and
each is taken over bytes however they are split into commands. -/
def Obligations.ChecksAreTheManuals : Prop :=
  let digits : List Byte := [0x31, 0x32, 0x33, 0x34, 0x35, 0x36, 0x37, 0x38, 0x39]
  chunkCheck digits = 0xE3069283 ∧ streamDigest digits = 0x62EC59E3F1A4F00A ∧ frameCheck digits = 0x29B1 ∧
  streamDigest [] = 0 ∧
  (∀ (v : Check) (a b : List Byte), checkAdvance (checkAdvance v a) b = checkAdvance v (a ++ b)) ∧
  (∀ (v : Digest) (a b : List Byte), remainderAdvance (remainderAdvance v a) b = remainderAdvance v (a ++ b))

/-! ### Grants and take-ups -/

/-- When a card port holds a copy request and when a repair request; and with no FREE slot, or with no request, there is no grant. A
port whose pass-through list is not empty goes to that list first (log 18).
The latch at a change of the queue's length: a clear latch is set at or above the high mark, a set latch cleared at or below the low
mark, and it stays otherwise; with an unchanged length it stays whatever the marks. -/
def Obligations.RequestsAtTheArbiter : Prop :=
  (∀ (p : CardId) (s : State),
     let atFreePoint : Prop := s.link.engine = .running ∧ (s.card p).presence = .ready ∧ (s.card p).op = none ∧ (s.card p).passList = []
     (s.copyRequest p = true ↔ atFreePoint ∧ s.arbiter.hold.get p = false ∧
       ∃ c, s.readingClip? p = some c ∧ c.chunksRead < c.chunkCount ∧
         ∀ x ∈ c.dests, x.state = .active → (s.drive x.drive).latch = false) ∧
     (s.repairRequest p = true ↔ atFreePoint ∧
       ∃ e rest, (s.card p).repairs = e :: rest ∧ (s.drive e.drive).writeQueue.length < 120) ∧
     ((∀ i, (s.slot i).state ≠ .free) → exec .grant s = .next s) ∧
     ((∀ q, s.copyRequest q = false ∧ s.repairRequest q = false) → exec .grant s = .next s)) ∧
  (∀ (before after : DrivePort),
     (after.writeQueue.length = before.writeQueue.length → before.noticed after = after) ∧
     (after.writeQueue.length ≠ before.writeQueue.length → after.latch = false →
       before.noticed after = { after with latch := decide (after.highMark ≤ after.writeQueue.length) }) ∧
     (after.writeQueue.length ≠ before.writeQueue.length → after.latch = true →
       before.noticed after = { after with latch := decide (after.lowMark < after.writeQueue.length) }))

/-- GRANT to a repair request: the lowest-numbered port with one wins over every copy request, whatever the free count, reserve mark,
ceiling, priorities and holds; the head of its repair list is removed and its read is in flight into the lowest-numbered FREE
slot, even the last. The round-robin position stays. Nothing else changes. -/
def Obligations.GrantGivesRepairFirst : Prop :=
  ∀ (p : CardId) (e : RepairEntry) (rest : List RepairEntry) (i : SlotId) (s : State),
    s.repairRequest p = true → (∀ q, q < p → s.repairRequest q = false) → (s.card p).repairs = e :: rest →
    (s.slot i).state = .free → (∀ j, j < i → (s.slot j).state ≠ .free) → ∃ t,
      exec .grant s = .next t ∧
      t.slots = (s.setSlot i { s.slot i with state := .filling, owner := some { clip := e.clip, chunk := e.chunk },
                                             purpose := some .repair, refs := 0 }).slots ∧
      t.arbiter = { s.arbiter with inService := s.arbiter.inService.set p.val (some .repair) p.isLt } ∧
      t.cards = (s.setCard p { s.card p with
        repairs := rest,
        op := some { task := .repairRead e.clip e.chunk e.drive i, done := 0, retries := 0, filled := 0, check := 0xFFFFFFFF,
                     remainder := 0xFFFFFFFFFFFFFFFF } }).cards ∧
      t.table = { s.table with clips := s.table.clips.map (fun x =>
        if x.id = e.clip then { x with inFlight := x.inFlight + 1 } else x) } ∧
      t.link = s.link ∧ t.store = s.store ∧ t.drives = s.drives ∧ t.freeValues = s.freeValues ∧ t.pending = s.pending ∧
      t.freeCount + 1 = s.freeCount ∧ t.summary = { s.summary with lowestFree := min s.summary.lowestFree t.freeCount }

/-- GRANT to a copy request: with no repair request, of the copy requests the one with the lowest priority number, first in turn after
the round-robin position, is granted the lowest-numbered FREE slot, unless the free count is at or below the reserve mark and
its number is above the ceiling. The slot is FILLING for the clip's next chunk, the port is in service with the read in flight
from the stored remainder, the position moves and the in-flight count rises. Nothing else changes. -/
def Obligations.GrantGivesCopy : Prop :=
  ∀ (p : CardId) (c : Clip) (i : SlotId) (s : State),
    (∀ q, s.repairRequest q = false) → s.copyRequest p = true →
    (∀ q, s.copyRequest q = true → s.arbiter.priority.get p ≤ s.arbiter.priority.get q ∧
      (s.arbiter.priority.get q = s.arbiter.priority.get p →
        (p.val + 7 - s.arbiter.roundRobin.val) % 8 ≤ (q.val + 7 - s.arbiter.roundRobin.val) % 8)) →
    (s.slot i).state = .free → (∀ j, j < i → (s.slot j).state ≠ .free) → s.readingClip? p = some c →
    (s.freeCount ≤ s.arbiter.reserveMark → s.arbiter.ceiling < s.arbiter.priority.get p → exec .grant s = .next s) ∧
    (s.arbiter.reserveMark < s.freeCount ∨ s.arbiter.priority.get p ≤ s.arbiter.ceiling → ∃ t,
      exec .grant s = .next t ∧
      t.slots = (s.setSlot i { s.slot i with state := .filling, owner := some { clip := c.id, chunk := c.chunksRead },
                                             purpose := some .copy, refs := 0 }).slots ∧
      t.arbiter = { s.arbiter with roundRobin := p, inService := s.arbiter.inService.set p.val (some .copy) p.isLt } ∧
      t.cards = (s.setCard p { s.card p with
        op := some { task := .copyRead c.id c.chunksRead i, done := 0, retries := 0, filled := 0, check := 0xFFFFFFFF,
                     remainder := c.remainder } }).cards ∧
      t.table = { s.table with clips := s.table.clips.map (fun x =>
        if x.id = c.id then { x with inFlight := x.inFlight + 1 } else x) } ∧
      t.link = s.link ∧ t.store = s.store ∧ t.drives = s.drives ∧ t.freeValues = s.freeValues ∧ t.pending = s.pending ∧
      t.freeCount + 1 = s.freeCount ∧ t.summary = { s.summary with lowestFree := min s.summary.lowestFree t.freeCount })

/-- RECHECK READ TAKEN UP and PASS THROUGH TAKEN UP at a free point: the port takes up the chunk at the recheck position, which raises
the clip's in-flight count and takes no slot; or removes the head of its pass-through list, which touches no clip and leaves a
drive port's phase and run count. Nothing else changes. -/
def Obligations.ReadsTakenUpWithoutSlot : Prop :=
  (∀ (p : CardId) (r : RecheckPass) (c : Clip) (s : State),
    (s.card p).presence = .ready → (s.card p).op = none → (s.card p).passList = [] → (s.card p).recheck = some r →
    s.clip? r.clip = some c → c.state = .rechecking → r.position < c.chunkCount →
    exec (.recheckReadTakenUp p) s = .next
      { (s.setCard p { s.card p with
          op := some { task := .recheckRead r.clip r.position, done := 0, retries := 0, filled := 0, check := 0xFFFFFFFF,
                       remainder := r.fresh } }) with
        table := { s.table with clips := s.table.clips.map (fun x =>
          if x.id = r.clip then { x with inFlight := x.inFlight + 1 } else x) } }) ∧
  (∀ (p : CardId) (r : PassRecord) (rest : List PassRecord) (s : State),
    (s.card p).presence = .ready → (s.card p).op = none → (s.card p).passList = r :: rest →
    exec (.passThroughTakenUp (.card p)) s = .next (s.setCard p { s.card p with
      passList := rest,
      op := some { task := .passThrough r, done := 0, retries := 0, filled := 0, check := 0xFFFFFFFF,
                   remainder := 0xFFFFFFFFFFFFFFFF } })) ∧
  (∀ (d : DriveId) (r : PassRecord) (rest : List PassRecord) (s : State),
    (s.drive d).presence = .online → (s.drive d).op = none → (s.drive d).passList = r :: rest →
    exec (.passThroughTakenUp (.drive d)) s = .next (s.setDrive d { s.drive d with
      passList := rest, op := some { task := .passThrough r, done := 0, retries := 0, check := 0xFFFFFFFF } }))

/-- CHUNK WRITE and VERIFY READ TAKEN UP at a free point with an empty pass-through list, by R117's steps: a completed run flips the
phase; the phase's own work goes first, the other's with a fresh run otherwise. The entry stays on its list, the run count
rises, and the clip's in-flight count rises. The row that the decision does not choose is not taken and changes nothing (log 2). -/
def Obligations.AlternationChooses : Prop :=
  ∀ (d : DriveId) (s : State), (s.drive d).presence = .online → (s.drive d).op = none → (s.drive d).passList = [] →
    let run : Nat := match (s.drive d).phase with | .write => (s.drive d).writeRun | .verify => (s.drive d).verifyRun
    let ended : Bool := run ≤ (s.drive d).runCount
    let phase : Phase := if ended then (match (s.drive d).phase with | .write => .verify | .verify => .write) else (s.drive d).phase
    let count : Nat := if ended then 0 else (s.drive d).runCount
    let taken (ph : Phase) (n : Nat) (task : DriveTask) (clip : Nat) : State :=
      { (s.setDrive d { s.drive d with phase := ph, runCount := n,
                                        op := some { task := task, done := 0, retries := 0, check := 0xFFFFFFFF } }) with
        table := { s.table with clips := s.table.clips.map (fun x =>
          if x.id = clip then { x with inFlight := x.inFlight + 1 } else x) } }
    let canWrite : Prop := (s.drive d).writeQueue ≠ [] ∧ (s.drive d).backlog.length < 1024
    let canVerify : Prop := (s.drive d).backlog ≠ []
    (∀ w ws, (s.drive d).writeQueue = w :: ws → (s.drive d).backlog.length < 1024 → (phase = .write ∨ ¬ canVerify) →
      exec (.chunkWriteTakenUp d) s = .next
        (taken .write (if phase = .write then count + 1 else 1) (.chunkWrite w) w.clip) ∧
      exec (.verifyReadTakenUp d) s = .next s) ∧
    (∀ v vs, (s.drive d).backlog = v :: vs → (phase = .verify ∨ ¬ canWrite) →
      exec (.verifyReadTakenUp d) s = .next
        (taken .verify (if phase = .verify then count + 1 else 1) (.verifyRead v.clip v.chunk) v.clip) ∧
      exec (.chunkWriteTakenUp d) s = .next s) ∧
    (¬ canWrite → ¬ canVerify → exec (.chunkWriteTakenUp d) s = .next s ∧ exec (.verifyReadTakenUp d) s = .next s)

/-! ### Endings at a card port -/

/-- COPY READ of a chunk that is not the last, for a clip in READING: the check is recorded, the slot is HELD with one reference and
one write-queue entry for each ACTIVE destination, chunks read and the stored remainder advance, the in-flight count falls,
and a chunk read is counted. Nothing else changes. A clip in READING has an ACTIVE destination (R27). -/
def Obligations.CopyReadStagesChunk : Prop :=
  ∀ (p : CardId) (op : CardOp) (data : List Byte) (clip chunk : Nat) (slot : SlotId) (c : Clip) (s : State),
    s.CardEnds p op data → op.task = .copyRead clip chunk slot → s.EngineStays (.card p) →
    s.clip? clip = some c → c.state = .reading → c.chunksRead + 1 ≠ c.chunkCount → 1 ≤ c.activeCount → ∃ t,
    exec (.copyRead p data) s = .next t ∧
    t.pending = s.pending ∧ t.link = s.link ∧ t.freeValues = s.freeValues ∧
    t.store = s.store.record clip chunk (checkFinish (checkAdvance op.check data)) ∧
    t.clip? clip = some { c with chunksRead := c.chunksRead + 1, remainder := remainderAdvance op.remainder data,
                                 inFlight := c.inFlight - 1 } ∧
    (∀ k, k ≠ clip → t.clip? k = s.clip? k) ∧ t.table.results = s.table.results ∧
    t.slots = (s.setSlot slot { s.slot slot with state := .held, refs := c.activeCount,
                                                 data := placeBytes (s.slot slot).data op.filled data }).slots ∧
    t.arbiter = { s.arbiter with inService := s.arbiter.inService.set p.val none p.isLt } ∧
    t.cards = (s.setCard p { s.card p with op := none }).cards ∧
    (∀ d, t.drive d = (s.drive d).noticed
      { s.drive d with writeQueue := (s.drive d).writeQueue ++
          (c.dests.filter (fun x => x.state = .active && x.drive = d)).map (fun _ => { slot := slot, clip := clip, chunk := chunk }) }) ∧
    t.summary = State.watermarked s t (s.summary.counted (chunksReadCounter p))

/-- COPY READ of the last chunk: besides staging it, the digest is written and the clip leaves READING, for RECHECKING with a recheck
pass begun at chunk 0 under READBACK_RECHECK, and for DRAINING otherwise. Every other record stays but that of the clip R9
promotes, if any. -/
def Obligations.CopyReadEndsReading : Prop :=
  ∀ (p : CardId) (op : CardOp) (data : List Byte) (clip chunk : Nat) (slot : SlotId) (c : Clip) (s : State),
    s.CardEnds p op data → op.task = .copyRead clip chunk slot → s.EngineStays (.card p) →
    s.clip? clip = some c → c.state = .reading → c.chunksRead + 1 = c.chunkCount → 1 ≤ c.activeCount → ∃ t,
    exec (.copyRead p data) s = .next t ∧
    t.store = s.store.record clip chunk (checkFinish (checkAdvance op.check data)) ∧
    t.clip? clip = some { c with
      state := if c.policy = .readbackRecheck then .rechecking else .draining,
      chunksRead := c.chunkCount, remainder := remainderAdvance op.remainder data,
      digest := some (remainderAdvance op.remainder data ^^^ 0xFFFFFFFFFFFFFFFF), inFlight := c.inFlight - 1 } ∧
    OthersKept c (if c.policy = .readbackRecheck then .rechecking else .draining) s t ∧
    t.table.results = s.table.results ∧ t.link = s.link ∧
    t.slots = (s.setSlot slot { s.slot slot with state := .held, refs := c.activeCount,
                                                 data := placeBytes (s.slot slot).data op.filled data }).slots ∧
    t.arbiter = { s.arbiter with inService := s.arbiter.inService.set p.val none p.isLt } ∧
    t.cards = (s.setCard p { s.card p with
      op := none,
      recheck := if c.policy = .readbackRecheck then some { clip := clip, position := 0, fresh := 0xFFFFFFFFFFFFFFFF }
                 else (s.card p).recheck }).cards ∧
    (∀ d, t.drive d = (s.drive d).noticed
      { s.drive d with writeQueue := (s.drive d).writeQueue ++
          (c.dests.filter (fun x => x.state = .active && x.drive = d)).map (fun _ => { slot := slot, clip := clip, chunk := chunk }) }) ∧
    t.summary = State.watermarked s t (s.summary.counted (chunksReadCounter p))

/-- REPAIR READ for a clip in READING, RECHECKING or DRAINING. Equal checks and an ACTIVE destination: the slot is HELD with one
reference and its entry joins that drive's write queue. Equal checks and a LOST destination: the slot returns FREE, and the record
changes in its in-flight count alone, unless a DRAINING clip with every destination decided ends with this operation. Unequal
checks: the clip is marked source unstable, the slot returns FREE, and the clip closes with SOURCE_UNSTABLE. The in-flight count
falls; the remainder, chunks read, the digest and the store stay. Every other record stays but that of the clip R9 promotes, if
any. -/
def Obligations.RepairReadJudged : Prop :=
  ∀ (p : CardId) (op : CardOp) (data : List Byte) (clip chunk : Nat) (d : DriveId) (slot : SlotId) (c : Clip) (v : Check) (s : State),
    s.CardEnds p op data → op.task = .repairRead clip chunk d slot → s.EngineStays (.card p) →
    s.clip? clip = some c → c.state.isOpen = true → s.store.lookup clip chunk = some v → ∃ t,
    exec (.repairRead p data) s = .next t ∧ t.store = s.store ∧ (t.card p).op = none ∧
    t.arbiter = { s.arbiter with inService := s.arbiter.inService.set p.val none p.isLt } ∧
    (v = checkFinish (checkAdvance op.check data) → c.activeOn d = true →
      t.clip? clip = some { c with inFlight := c.inFlight - 1 } ∧ (∀ k, k ≠ clip → t.clip? k = s.clip? k) ∧
      t.table.results = s.table.results ∧ t.link = s.link ∧
      t.slots = (s.setSlot slot { s.slot slot with state := .held, refs := 1,
                                                   data := placeBytes (s.slot slot).data op.filled data }).slots ∧
      t.cards = (s.setCard p { s.card p with op := none }).cards ∧
      (∀ e, t.drive e = if e = d then (s.drive d).noticed { s.drive d with
          writeQueue := (s.drive d).writeQueue ++ [{ slot := slot, clip := clip, chunk := chunk }] } else s.drive e)) ∧
    (v = checkFinish (checkAdvance op.check data) → c.activeOn d = false →
      (t.slot slot).state = .free ∧ (∀ i, i ≠ slot → t.slot i = s.slot i) ∧
      (∀ e, (t.drive e).writeQueue = (s.drive e).writeQueue) ∧
      ∃ c', t.clip? clip = some c' ∧ ClipKept { c with inFlight := c.inFlight - 1 } c' ∧ c'.dests = c.dests ∧ c'.cause = c.cause ∧
        OthersKept c c'.state s t ∧
        (¬ (c.state = .draining ∧ c.activeCount = 0 ∧ c.inFlight ≤ 1) → c' = { c with inFlight := c.inFlight - 1 } ∧
          t.table.results = s.table.results ∧ t.link = s.link) ∧
        (c.state = .draining → c.activeCount = 0 → c.inFlight ≤ 1 → c'.state.isTerminal = true ∧
          t.table.results = s.table.results ++ [clip])) ∧
    (v ≠ checkFinish (checkAdvance op.check data) → ∃ c', t.clip? clip = some c' ∧ c'.inFlight = c.inFlight - 1 ∧
      c'.sourceUnstable = true ∧ c'.cause = some .sourceUnstable ∧
      c'.state = (if c.inFlight ≤ 1 then .failed else .closing) ∧
      c'.chunksRead = c.chunksRead ∧ c'.remainder = c.remainder ∧ c'.digest = c.digest ∧ c'.dests = c.dests ∧
      (t.slot slot).state = .free ∧ OthersKept c c'.state s t ∧
      ∀ e, ∀ w ∈ (t.drive e).writeQueue, w.clip ≠ clip)

/-- RECHECK READ for a clip in RECHECKING: before the last chunk the position rises; at the last the finalised fresh remainder is
compared with the clip's digest, and the clip enters DRAINING with PASSED, where it ends at once if every destination is decided and
nothing is in flight, or closes with RECHECK_MISMATCH. No slot is used. Every other record stays but that of the clip R9 promotes,
if any. -/
def Obligations.RecheckReadAdvances : Prop :=
  ∀ (p : CardId) (op : CardOp) (data : List Byte) (clip chunk : Nat) (c : Clip) (r : RecheckPass) (s : State),
    s.CardEnds p op data → op.task = .recheckRead clip chunk → s.EngineStays (.card p) →
    s.clip? clip = some c → c.state = .rechecking → (s.card p).recheck = some r → ∃ t,
    exec (.recheckRead p data) s = .next t ∧ (t.card p).op = none ∧
    (t.card p).scratch = placeBytes (s.card p).scratch op.filled data ∧ t.store = s.store ∧ t.arbiter = s.arbiter ∧
    (r.position + 1 ≠ c.chunkCount →
      t = { s with
        cards := (s.setCard p { s.card p with
          op := none, scratch := placeBytes (s.card p).scratch op.filled data,
          recheck := some { r with position := r.position + 1, fresh := remainderAdvance r.fresh data } }).cards,
        table := { s.table with clips := s.table.clips.map (fun x =>
          if x.id = clip then { x with inFlight := x.inFlight - 1 } else x) } }) ∧
    (r.position + 1 = c.chunkCount → c.digest = some (remainderAdvance r.fresh data ^^^ 0xFFFFFFFFFFFFFFFF) →
      (t.card p).recheck = none ∧ t.slots = s.slots ∧ ∃ c', t.clip? clip = some c' ∧ c'.recheck = some .passed ∧
        c'.dests = c.dests ∧ c'.cause = c.cause ∧ c'.inFlight = c.inFlight - 1 ∧
        ClipGoesOn .draining c c' s t ∧ OthersKept c c'.state s t) ∧
    (r.position + 1 = c.chunkCount → c.digest ≠ some (remainderAdvance r.fresh data ^^^ 0xFFFFFFFFFFFFFFFF) →
      (t.card p).recheck = none ∧ ∃ c', t.clip? clip = some c' ∧ c'.recheck = some .mismatch ∧ c'.dests = c.dests ∧
        c'.cause = some .recheckMismatch ∧ c'.sourceUnstable = c.sourceUnstable ∧
        OthersKept c c'.state s t ∧
        c'.state = (if c.inFlight ≤ 1 then .failed else .closing))

/-- The endings of pass-through operations: CARD READ COMPLETES and DRIVE READ COMPLETES reply with the data as the medium delivered
it, DRIVE WRITE COMPLETES with the range. A media error after the retries replies MEDIA_ERROR and leaves the port in its state.
Nothing else changes but a drive port's run that has ended (R117, log 17). -/
def Obligations.PassThroughEnds : Prop :=
  (∀ (p : CardId) (op : CardOp) (r : PassRecord) (s : State),
    (s.card p).op = some op → op.task = .passThrough r → r.kind = .cardRead → s.EngineStays (.card p) →
    let done (body : ReplyBody) : State := (s.setCard p { s.card p with op := none }).reply .cardRead r.tag body
    (∀ data, s.CardEnds p op data →
      exec (.cardReadCompletes p data) s = .next (done (.sectors (.card p) r.generation r.first r.count data))) ∧
    (op.done = 0 → 3 ≤ op.retries → exec (.cardMediaError p) s = .next (done (.mediaError (.card p) r.first r.count)))) ∧
  (∀ (d : DriveId) (op : DriveOp) (r : PassRecord) (s : State),
    (s.drive d).op = some op → op.task = .passThrough r → r.kind ≠ .cardRead → s.EngineStays (.drive d) →
    let quiet : DrivePort := { s.drive d with op := none }
    let done (body : ReplyBody) : State :=
      (s.setDrive d (if quiet.presence = .online then quiet.idled else quiet)).reply
        (if r.kind = .driveWrite then .driveWrite else .driveRead) r.tag body
    (∀ data, r.kind = .driveRead → s.DriveReads d op data →
      exec (.driveReadCompletes d data) s = .next (done (.sectors (.drive d) r.generation r.first r.count data))) ∧
    (r.kind = .driveWrite → op.done = 0 →
      exec (.driveWriteCompletes d) s = .next (done (.written (.drive d) r.first r.count))) ∧
    (op.done = 0 → 2 ≤ op.retries →
      exec (.driveMediaError d) s = .next (done (.mediaError (.drive d) r.first r.count))))

/-! ### Endings at a drive port -/

/-- CHUNK WRITE for an ACTIVE destination of an open clip under READBACK or READBACK_RECHECK, its entry on the queue: the entry leaves
with one reference of its slot, chunks written rises for a COPY slot and stays for a REPAIR slot, a backlog entry joins the
tail, the in-flight count falls, the chunk is counted. Nothing else changes.
CHUNK WRITE whose entry was removed while it was in flight: it takes no reference from any slot and joins no backlog; the in-flight
count falls, the chunk is counted, and no destination changes. A CLOSING clip takes its pending outcome at its last, and a DRAINING
clip with every destination decided ends then. Every other record stays but that of the clip R9 promotes, if any. -/
def Obligations.ChunkWriteCompletes : Prop :=
  (∀ (d : DriveId) (op : DriveOp) (e : WriteEntry) (c : Clip) (u : Purpose) (s : State),
     s.DriveWrites d op → op.task = .chunkWrite e → s.EngineStays (.drive d) → e ∈ (s.drive d).writeQueue →
     (s.slot e.slot).purpose = some u → s.clip? e.clip = some c → c.state.isOpen = true → c.activeOn d = true →
     c.policy ≠ .none → ∃ t,
     exec (.chunkWrite d) s = .next t ∧
     t.slots = (s.setSlot e.slot (s.slot e.slot).dropRef).slots ∧
     t.clip? e.clip = some { c with
       inFlight := c.inFlight - 1,
       dests := c.dests.map (fun x =>
         if x.drive = d ∧ u = .copy then { x with chunksWritten := x.chunksWritten + 1 } else x) } ∧
     (∀ k, k ≠ e.clip → t.clip? k = s.clip? k) ∧ t.table.results = s.table.results ∧
     (∀ d', t.drive d' = if d' = d then (s.drive d).noticed { s.drive d with
         op := none, writeQueue := (s.drive d).writeQueue.erase e,
         backlog := (s.drive d).backlog ++ [{ clip := e.clip, chunk := e.chunk }] } else s.drive d') ∧
     t.link = s.link ∧ t.store = s.store ∧ t.arbiter = s.arbiter ∧ t.cards = s.cards ∧ t.freeValues = s.freeValues ∧
     t.summary = State.watermarked s t (s.summary.counted (chunksWrittenCounter d))) ∧
  (∀ (d : DriveId) (op : DriveOp) (e : WriteEntry) (c : Clip) (s : State),
     s.DriveWrites d op → op.task = .chunkWrite e → s.EngineStays (.drive d) → e ∉ (s.drive d).writeQueue →
     s.clip? e.clip = some c → ∃ t c',
     exec (.chunkWrite d) s = .next t ∧ t.clip? e.clip = some c' ∧ c'.dests = c.dests ∧ c'.inFlight = c.inFlight - 1 ∧
     t.slots = s.slots ∧ (t.drive d).op = none ∧ (t.drive d).backlog = (s.drive d).backlog ∧
     (t.drive d).writeQueue = (s.drive d).writeQueue ∧
     (∀ o, c.state = .closing → c.pendingOutcome = some o → ClosingGoesOn c o s t) ∧
     (c.state.isOpen = true → ClipGoesOn c.state c c' s t ∧ OthersKept c c'.state s t) ∧
     t.summary = s.summary.counted (chunksWrittenCounter d))

/-- CHUNK WRITE of a COPY slot under NONE, for an ACTIVE destination of a clip with its destinations on distinct drives: chunks written
rises, and the destination becomes COPIED, unverified, when it reaches the chunk count; the other destinations stay, no backlog
entry is made, and the entry leaves with one reference. A DRAINING clip then ends when every destination is decided and nothing is
in flight, DONE when all are COPIED and DEGRADED otherwise; in every other case it goes on. Every other record stays but that of
the clip R9 promotes, if any. -/
def Obligations.ChunkWriteProvesUnderNone : Prop :=
  ∀ (d : DriveId) (op : DriveOp) (e : WriteEntry) (c : Clip) (s : State),
    s.DriveWrites d op → op.task = .chunkWrite e → s.EngineStays (.drive d) → e ∈ (s.drive d).writeQueue →
    (s.slot e.slot).purpose = some .copy → s.clip? e.clip = some c → c.state.isOpen = true → c.activeOn d = true →
    (c.dests.map Destination.drive).Nodup → c.policy = .none → c.pendingOutcome = none → ∃ t c',
    exec (.chunkWrite d) s = .next t ∧ t.clip? e.clip = some c' ∧
    ClipKept { c with inFlight := c.inFlight - 1 } c' ∧ c'.cause = c.cause ∧
    c'.dests = c.dests.map (fun x =>
      if x.drive = d then
        if x.chunksWritten + 1 = c.chunkCount then { x with chunksWritten := x.chunksWritten + 1, state := .copied, verified := false }
        else { x with chunksWritten := x.chunksWritten + 1 }
      else x) ∧
    (t.drive d).op = none ∧ (t.drive d).backlog = (s.drive d).backlog ∧ (t.drive d).writeQueue = (s.drive d).writeQueue.erase e ∧
    t.slots = (s.setSlot e.slot (s.slot e.slot).dropRef).slots ∧
    OthersKept c c'.state s t ∧
    (c.state = .draining → c'.activeCount = 0 → c.inFlight ≤ 1 →
      c'.state = (if ∀ x ∈ c'.dests, x.state = .copied then .done else .degraded) ∧
      t.table.results = s.table.results ++ [e.clip]) ∧
    (c.state ≠ .draining ∨ 0 < c'.activeCount ∨ 1 < c.inFlight → c'.state = c.state ∧ t.table.results = s.table.results)

/-- VERIFY READ that matches, for an ACTIVE destination of an open clip: the entry leaves the backlog, chunks verified rises, and the
destination becomes COPIED and verified when both counts reach the chunk count. A DRAINING clip with every destination decided
and nothing in flight ends then, DONE or DEGRADED; otherwise the clip goes on in its state. No mismatch is counted. Every other
record stays but that of the clip R9 promotes, if any. -/
def Obligations.VerifyMatchProves : Prop :=
  ∀ (d : DriveId) (op : DriveOp) (data : List Byte) (clip chunk : Nat) (c : Clip) (s : State),
    s.DriveReads d op data → op.task = .verifyRead clip chunk → s.EngineStays (.drive d) →
    s.store.lookup clip chunk = some (checkFinish (checkAdvance op.check data)) →
    s.clip? clip = some c → c.state.isOpen = true → c.activeOn d = true → c.policy ≠ .none → (c.dests.map Destination.drive).Nodup →
    ∃ t c',
    exec (.verifyRead d data) s = .next t ∧ t.clip? clip = some c' ∧ c'.inFlight = c.inFlight - 1 ∧
    c'.dests = c.dests.map (fun x =>
      if x.drive = d then
        if x.chunksWritten = c.chunkCount ∧ x.chunksVerified + 1 = c.chunkCount then
          { x with chunksVerified := x.chunksVerified + 1, state := .copied, verified := true }
        else { x with chunksVerified := x.chunksVerified + 1 }
      else x) ∧
    ClipGoesOn c.state c c' s t ∧ OthersKept c c'.state s t ∧
    t.slots = s.slots ∧ t.store = s.store ∧ t.arbiter = s.arbiter ∧ t.summary = s.summary ∧
    (t.drive d).op = none ∧ (t.drive d).backlog = (s.drive d).backlog.erase { clip := clip, chunk := chunk } ∧
    (t.drive d).writeQueue = (s.drive d).writeQueue

/-- VERIFY READ that differs, for an ACTIVE destination of an open clip: by the first case that holds, the destination is LOST with
VERIFY_FAILED at four repairs used, with NO_SOURCE when the source is not present, with REPAIR_OVERFLOW when the repair list
holds 32 entries; or repairs used rises and a repair entry joins the tail of the card port's list. The counts of chunks stay, as do
the other destinations. A clip left with too few copies by the loss closes with TOO_FEW_COPIES; one left with enough ends, DONE or
DEGRADED, when it is DRAINING with every destination decided and nothing in flight, and goes on otherwise. The mismatch is
counted. Every other record stays but that of the clip R9 promotes, if any. -/
def Obligations.VerifyMismatchJudged : Prop :=
  ∀ (d : DriveId) (op : DriveOp) (data : List Byte) (clip chunk : Nat) (c : Clip) (x : Destination) (v : Check) (s : State),
    s.DriveReads d op data → op.task = .verifyRead clip chunk → s.EngineStays (.drive d) →
    s.store.lookup clip chunk = some v → v ≠ checkFinish (checkAdvance op.check data) →
    s.clip? clip = some c → c.state.isOpen = true → c.destOn d = some x → x.state = .active →
    (c.dests.map Destination.drive).Nodup →
    let sourceGone : Prop := (s.card c.card).presence ≠ .ready ∨ (s.card c.card).generation ≠ c.generation
    ∃ t c', exec (.verifyRead d data) s = .next t ∧ t.clip? clip = some c' ∧ t.store = s.store ∧ t.arbiter = s.arbiter ∧
      t.summary = State.watermarked s t (s.summary.counted (mismatchesCounter d)) ∧ (t.drive d).op = none ∧
      c'.inFlight = c.inFlight - 1 ∧ OthersKept c c'.state s t ∧
      (∃ y, c'.destOn d = some y ∧ c'.dests = c.dests.map (fun z => if z.drive = d then y else z) ∧
        (4 ≤ x.repairsUsed → y = { x with state := .lost, lossCause := some .verifyFailed }) ∧
        (x.repairsUsed < 4 → sourceGone → y = { x with state := .lost, lossCause := some .noSource }) ∧
        (x.repairsUsed < 4 → ¬ sourceGone → 32 ≤ (s.card c.card).repairs.length →
          y = { x with state := .lost, lossCause := some .repairOverflow }) ∧
        (x.repairsUsed < 4 → ¬ sourceGone → (s.card c.card).repairs.length < 32 →
          y = { x with repairsUsed := x.repairsUsed + 1 }) ∧
        (y.state = .lost → (c'.standing < c.required → ClipClosedBy .tooFewCopies c') ∧
          (c.required ≤ c'.standing → c'.cause = c.cause ∧ ClipGoesOn c.state c c' s t) ∧
          (∀ w ∈ (t.drive d).writeQueue, w.clip ≠ clip) ∧ (∀ b ∈ (t.drive d).backlog, b.clip ≠ clip))) ∧
      (x.repairsUsed < 4 → ¬ sourceGone → (s.card c.card).repairs.length < 32 →
        (t.card c.card).repairs = (s.card c.card).repairs ++ [{ clip := clip, chunk := chunk, drive := d }] ∧
        c'.state = c.state ∧ t.table.results = s.table.results ∧ t.slots = s.slots ∧
        (t.drive d).writeQueue = (s.drive d).writeQueue ∧
        (t.drive d).backlog = (s.drive d).backlog.erase { clip := clip, chunk := chunk })

/-- COPY READ for a clip in CLOSING: the chunk is discarded and its slot returns FREE, though its check has been recorded; chunks read
and the remainder stay, and the clip takes its pending outcome when this was its last operation in flight.
REPAIR READ for a clip in CLOSING: the slot returns FREE whatever the check.
RECHECK READ for a clip in CLOSING: the port's recheck state is cleared.
VERIFY READ for a clip in CLOSING or a destination that is not ACTIVE: a mismatch is counted, and nothing else is applied.
In every case the last operation in flight of a CLOSING clip gives it its pending outcome, and that of a DRAINING clip with every
destination decided ends it. Every other record stays but that of the clip R9 promotes, if any. -/
def Obligations.DiscardedEndings : Prop :=
  (∀ (p : CardId) (op : CardOp) (data : List Byte) (clip chunk : Nat) (slot : SlotId) (c : Clip) (o : PendingOutcome) (s : State),
     s.CardEnds p op data → op.task = .copyRead clip chunk slot → s.EngineStays (.card p) →
     s.clip? clip = some c → c.state = .closing → c.pendingOutcome = some o → ∃ t,
     exec (.copyRead p data) s = .next t ∧
     t.store = s.store.record clip chunk (checkFinish (checkAdvance op.check data)) ∧
     (t.slot slot).state = .free ∧ (t.slot slot).owner = none ∧ (t.slot slot).purpose = none ∧ (t.slot slot).refs = 0 ∧
     (∀ i, i ≠ slot → t.slot i = s.slot i) ∧ (t.card p).op = none ∧
     t.arbiter = { s.arbiter with inService := s.arbiter.inService.set p.val none p.isLt } ∧
     ClosingGoesOn c o s t ∧
     (1 < c.inFlight → t.drives = s.drives ∧ t.cards = (s.setCard p { s.card p with op := none }).cards)) ∧
  (∀ (p : CardId) (op : CardOp) (data : List Byte) (clip chunk : Nat) (d : DriveId) (slot : SlotId) (c : Clip) (o : PendingOutcome) (s : State),
     s.CardEnds p op data → op.task = .repairRead clip chunk d slot → s.EngineStays (.card p) →
     s.clip? clip = some c → c.state = .closing → c.pendingOutcome = some o → ∃ t,
     exec (.repairRead p data) s = .next t ∧ t.store = s.store ∧
     (t.slot slot).state = .free ∧ (t.slot slot).owner = none ∧ (t.slot slot).purpose = none ∧ (t.slot slot).refs = 0 ∧
     (∀ i, i ≠ slot → t.slot i = s.slot i) ∧ (t.card p).op = none ∧
     t.arbiter = { s.arbiter with inService := s.arbiter.inService.set p.val none p.isLt } ∧
     ClosingGoesOn c o s t ∧
     (1 < c.inFlight → t.drives = s.drives ∧ t.cards = (s.setCard p { s.card p with op := none }).cards)) ∧
  (∀ (p : CardId) (op : CardOp) (data : List Byte) (clip chunk : Nat) (c : Clip) (o : PendingOutcome) (s : State),
     s.CardEnds p op data → op.task = .recheckRead clip chunk → s.EngineStays (.card p) →
     s.clip? clip = some c → c.state = .closing → c.pendingOutcome = some o → ∃ t,
     exec (.recheckRead p data) s = .next t ∧ t.store = s.store ∧ t.slots = s.slots ∧ t.arbiter = s.arbiter ∧
     (t.card p).op = none ∧ (t.card p).recheck = none ∧
     ClosingGoesOn c o s t ∧ (1 < c.inFlight → t.drives = s.drives)) ∧
  (∀ (d : DriveId) (op : DriveOp) (data : List Byte) (clip chunk : Nat) (c : Clip) (s : State),
     s.DriveReads d op data → op.task = .verifyRead clip chunk → s.EngineStays (.drive d) →
     s.clip? clip = some c → (c.state = .closing ∨ (c.state.isOpen = true ∧ c.activeOn d = false)) → ∃ t c',
     exec (.verifyRead d data) s = .next t ∧ t.clip? clip = some c' ∧ c'.inFlight = c.inFlight - 1 ∧ c'.dests = c.dests ∧
     c'.cause = c.cause ∧
     (1 < c.inFlight → c' = { c with inFlight := c.inFlight - 1 } ∧ t.link = s.link ∧ t.table.results = s.table.results ∧
       t.cards = s.cards) ∧
     (∀ o, c.state = .closing → c.pendingOutcome = some o → ClosingGoesOn c o s t) ∧
     (c.state.isOpen = true → ClipGoesOn c.state c c' s t ∧ OthersKept c c'.state s t) ∧
     t.slots = s.slots ∧ t.store = s.store ∧ t.arbiter = s.arbiter ∧ (t.drive d).op = none ∧
     (t.drive d).writeQueue = (s.drive d).writeQueue ∧
     (t.drive d).backlog = (s.drive d).backlog.erase { clip := clip, chunk := chunk } ∧
     t.summary = (if s.store.lookup clip chunk = some (checkFinish (checkAdvance op.check data)) then s.summary
       else s.summary.counted (mismatchesCounter d)))

/-! ### Failures and losses -/

/-- A card command that fails after its retries. For an open clip a copy read closes the clip with SOURCE_READ_ERROR; a repair read
makes an ACTIVE destination LOST with NO_SOURCE, by which a clip left with too few copies closes; a recheck read ends the pass with
NOT_DONE and the clip enters DRAINING. A DRAINING clip with every destination decided and nothing in flight ends then, DONE or
DEGRADED. For a clip in CLOSING the in-flight count falls, and the last gives the clip its pending outcome. The slot of a copy or
repair read returns FREE, and the port keeps its state. Every other record stays but that of the clip R9 promotes, if any. -/
def Obligations.CardReadFails : Prop :=
  ∀ (p : CardId) (op : CardOp) (command : Command) (clip : Nat) (c : Clip) (s : State),
    (s.card p).op = some op → (s.cardCommands op.task)[op.done]? = some command → 3 ≤ op.retries → s.EngineStays (.card p) →
    s.clip? clip = some c →
    (∀ chunk slot, op.task = .copyRead clip chunk slot → c.state = .reading → ∃ t c',
      exec (.cardMediaError p) s = .next t ∧ t.clip? clip = some c' ∧
      (t.card p).op = none ∧ (t.card p).presence = (s.card p).presence ∧
      (t.slot slot).state = .free ∧ t.arbiter.inService.get p = none ∧ t.store = s.store ∧
      OthersKept c c'.state s t ∧ c'.cause = some .sourceReadError ∧ c'.state = (if c.inFlight ≤ 1 then .failed else .closing) ∧
      c'.chunksRead = c.chunksRead ∧ c'.remainder = c.remainder ∧ c'.dests = c.dests) ∧
    (∀ chunk d slot, op.task = .repairRead clip chunk d slot → c.state.isOpen = true → c.activeOn d = true → ∃ t c',
      exec (.cardMediaError p) s = .next t ∧ t.clip? clip = some c' ∧
      (t.card p).op = none ∧ (t.card p).presence = (s.card p).presence ∧
      (t.slot slot).state = .free ∧ t.arbiter.inService.get p = none ∧ t.store = s.store ∧
      c'.dests = c.dests.map (fun x => if x.drive = d then { x with state := .lost, lossCause := some .noSource } else x) ∧
      c'.inFlight = c.inFlight - 1 ∧ (c'.standing < c.required → ClipClosedBy .tooFewCopies c') ∧
      (c.required ≤ c'.standing → c'.cause = c.cause ∧ ClipGoesOn c.state c c' s t) ∧
      OthersKept c c'.state s t) ∧
    (∀ chunk d slot, op.task = .repairRead clip chunk d slot → c.state.isOpen = true → c.activeOn d = false → ∃ t c',
      exec (.cardMediaError p) s = .next t ∧ t.clip? clip = some c' ∧
      (t.card p).op = none ∧ (t.card p).presence = (s.card p).presence ∧
      (t.slot slot).state = .free ∧ t.arbiter.inService.get p = none ∧ t.store = s.store ∧
      c'.dests = c.dests ∧ c'.cause = c.cause ∧ c'.inFlight = c.inFlight - 1 ∧ ClipGoesOn c.state c c' s t ∧
      OthersKept c c'.state s t) ∧
    (∀ chunk, op.task = .recheckRead clip chunk → c.state = .rechecking → ∃ t c',
      exec (.cardMediaError p) s = .next t ∧ t.clip? clip = some c' ∧
      (t.card p).op = none ∧ (t.card p).presence = (s.card p).presence ∧ (t.card p).recheck = none ∧ t.slots = s.slots ∧
      c'.recheck = some .notDone ∧ c'.dests = c.dests ∧ c'.cause = c.cause ∧ c'.inFlight = c.inFlight - 1 ∧
      ClipGoesOn .draining c c' s t ∧ OthersKept c c'.state s t) ∧
    (∀ o, op.task.clip? = some clip → c.state = .closing → c.pendingOutcome = some o → ∃ t,
      exec (.cardMediaError p) s = .next t ∧ (t.card p).op = none ∧ (t.card p).presence = (s.card p).presence ∧
      t.store = s.store ∧ ClosingGoesOn c o s t ∧
      (∀ slot owner use, (s.card p).fills = some (slot, owner, use) →
        (t.slot slot).state = .free ∧ t.arbiter.inService.get p = none) ∧
      ((s.card p).fills = none → t.slots = s.slots ∧ t.arbiter = s.arbiter ∧ (t.card p).recheck = none))

/-- A card removal, and a card timeout in READY. The port enters EMPTY with no identity and the lamp not driven, or FAULTED keeping both;
its operation, repair list, pass-through list and recheck state are gone, and its pass-through reads are answered. CARD EVENT REMOVED
or FAULTED is raised ahead of the ends the loss causes, but behind that of a clip whose last operation in flight was the one abandoned
(R41 for a clip in CLOSING; for one in DRAINING, log 24). The oldest QUEUED clip of a READY port that the loss leaves free to read is
promoted, in a table that agrees with its lists. A slot being filled returns FREE and the port leaves service. QUEUED and
READING clips of the queue close with SOURCE_LOST, a RECHECKING clip enters DRAINING with NOT_DONE, DRAINING and CLOSING clips
continue. ACTIVE destinations owed a repair become LOST with NO_SOURCE, and a clip left with too few copies by that closes with
TOO_FEW_COPIES (R27 after R20: log 8). The entries of closed clips and lost destinations leave the drive ports with one reference
each, and a drive port left without work by that settles its run (log 17). -/
def Obligations.CardLossApplied : Prop :=
  ∀ (p : CardId) (s : State), s.EngineStays (.card p) →
    ((s.card p).presence.holdsCard = true → ∃ t, exec (.cardRemoval p) s = .next t ∧
      CardLost p { s.card p with presence := .empty, detect := false, crel := false, capacity := none, mediaId := none }
        .removed .sourceRemoved .sourceRemoved s t) ∧
    ((s.card p).presence = .ready → (s.cardCommand p).isSome = true → ∃ t, exec (.cardTimeout p) s = .next t ∧
      CardLost p { s.card p with presence := .faulted } .faulted .timeout .portFaulted s t)

/-- A drive removal, and a drive fault in ONLINE (a timeout, or a chunk write or verify read failing after its retries). The port enters
ABSENT with no identity and the lamp not driven, or FAULTED keeping both; its operation, write queue, backlog and pass-through list
are gone, its latch is clear, and its pass-through requests are answered. DRIVE EVENT REMOVED or FAULTED is raised ahead of the ends
the loss causes, but behind that of a clip whose last operation in flight was the one abandoned (log 24). Every ACTIVE destination on
the port of a clip outside CLOSING becomes LOST with the loss's cause; COPIED destinations, and those of clips in CLOSING, stay. The
oldest QUEUED clip of a READY port that the loss leaves free to read is promoted, in a table that agrees with its lists. A clip left with too few copies closes with TOO_FEW_COPIES, and its entries leave
the other drive ports too, one of which left without work by that settles its run (log 17). Every slot gives up one reference for
each entry naming it that has left a queue: all of this port's, and the closed clips' of the others. The claims of every port stay
until their clip ends. Marks are in their ranges, as every step keeps them. -/
def Obligations.DriveLossApplied : Prop :=
  ∀ (d : DriveId) (s : State), LegalSettings s → s.EngineStays (.drive d) →
    ((s.drive d).presence.holdsDrive = true → ∃ t, exec (.driveRemoval d) s = .next t ∧
      DriveLost d { s.drive d with presence := .absent, detect := false, drel := false, capacity := none, mediaId := none }
        .removed .driveRemoved .driveRemoved .driveRemoved s t) ∧
    ((s.drive d).presence = .online → (s.driveCommand d).isSome = true → ∃ t, exec (.driveTimeout d) s = .next t ∧
      DriveLost d { s.drive d with presence := .faulted } .faulted .driveFault .timeout .portFaulted s t) ∧
    (∀ op, (s.drive d).op = some op → (s.driveCommand d).isSome = true → 2 ≤ op.retries →
      (∃ e, op.task = .chunkWrite e) ∨ (∃ clip chunk, op.task = .verifyRead clip chunk) → ∃ t,
      exec (.driveMediaError d) s = .next t ∧
      DriveLost d { s.drive d with presence := .faulted } .faulted .driveFault .timeout .portFaulted s t)

/-! ### The Summary Unit -/

/-- INTERVAL TIMER EXPIRY: a SUMMARY of the ended interval is raised with the bands of R181, the sequence advances modulo 4, every
interval count returns to 0, the watermarks restart at the present values, and the timer starts at the interval in force. The
cumulative counters and everything else stay. -/
def Obligations.IntervalTimerSummarises : Prop :=
  ∀ s : State, ∃ (f : SummaryFigures) (t : State),
    exec .intervalTimerExpiry s = .next t ∧
    t = { s with link := s.link.raise (.summary f), summary := t.summary } ∧
    t.summary = { s.summary with timer := s.summary.interval, sequence := (s.summary.sequence + 1) % 4,
                                 counts := Vector.replicate 29 0, lowestFree := s.freeCount,
                                 highestQueue := t.summary.highestQueue } ∧
    (∀ d, t.summary.highestQueue.get d = (s.drive d).writeQueue.length) ∧
    f.sequence = s.summary.sequence ∧ f.length = s.summary.timer ∧ f.free = s.freeCount ∧
    f.lowestFree = s.summary.lowestFree ∧ f.framesDiscarded = s.summary.counts.get 28 ∧
    f.cards.length = 8 ∧ f.drives.length = 4 ∧
    (∀ p : CardId, f.cards[p.val]? = some
      { chunksRead := s.summary.counts.get (chunksReadCounter p),
        readRetries := bandOf (s.summary.counts.get (readRetriesCounter p)) }) ∧
    (∀ d : DriveId, f.drives[d.val]? = some
      { chunksWritten := s.summary.counts.get (chunksWrittenCounter d),
        writeRetries := bandOf (s.summary.counts.get (writeRetriesCounter d)),
        mismatches := bandOf (s.summary.counts.get (mismatchesCounter d)),
        peakQueue := s.summary.highestQueue.get d }) ∧
    ∀ n, bandOf n = if n = 0 then .zero else if n = 1 then .one else if n ≤ 5 then .few else if n ≤ 10 then .some
      else if n ≤ 100 then .many else .heavy

/-! ### Ends of clips and of the reset -/

/-- TERMINAL ENTRY of a clip that is due: CLOSING or DRAINING with every destination decided, nothing in flight. Its claims leave every
map, it leaves its clip queue, PENDING becomes NOT_DONE, it joins the result list, IDLE (when a READY port's queue empties)
and then CLIP ENDED are raised, and R9 promotes the oldest QUEUED clip of the port when it is READY with no clip in READING or
RECHECKING. DRAINING ends DONE when every destination is COPIED, else DEGRADED. The events that make a clip due take this entry
themselves (log 9). A clip not due is left as it stands. -/
def Obligations.TerminalEntryTaken : Prop :=
  ∀ (id : Nat) (c : Clip) (s : State), s.clip? id = some c →
    (c.inFlight = 0 → c.state = .closing ∨ (c.state = .draining ∧ c.activeCount = 0) → ∃ t outcome,
      exec (.terminalEntry id) s = .next t ∧
      (c.pendingOutcome = some .failed → outcome = ClipState.failed) ∧
      (c.pendingOutcome = some .cancelled → outcome = ClipState.cancelled) ∧
      (c.pendingOutcome = none → outcome = if ∀ x ∈ c.dests, x.state = .copied then ClipState.done else ClipState.degraded) ∧
      t.clip? id = some { c with state := outcome, pendingOutcome := none,
                                 recheck := if c.recheck = some .pending then some .notDone else c.recheck } ∧
      OthersKept c outcome s t ∧ t.table.clips.map Clip.id = s.table.clips.map Clip.id ∧
      t.table.results = s.table.results ++ [id] ∧
      (let after := (s.card c.card).clipQueue.filter (fun k => k ≠ id)
       t.cards = (s.setCard c.card { s.card c.card with clipQueue := after }).cards ∧
       t.link = (if id ∈ (s.card c.card).clipQueue ∧ after = [] ∧ (s.card c.card).presence = .ready then
           s.link.raise (.card c.card (s.card c.card).generation .idle) else s.link).raise (.clipEnded id outcome)) ∧
      (∀ d, t.drive d = { s.drive d with claims := (s.drive d).claims.filter (fun k => k.clip ≠ id) }) ∧
      t.slots = s.slots ∧ t.store = s.store ∧ t.arbiter = s.arbiter ∧ t.summary = s.summary ∧ t.freeValues = s.freeValues) ∧
    (¬ (c.inFlight = 0 ∧ (c.state = .closing ∨ (c.state = .draining ∧ c.activeCount = 0))) →
      exec (.terminalEntry id) s = .next s)

/-- ENGINE RESET accepted: the notice queue is emptied before the notices it causes, the lost count is theirs alone, every open clip is
closed with ENGINE_RESET or ends CANCELLED, repair and pass-through lists are empty and the latter answered ABORTED, holds are
off, the round-robin position is CP7, counters and interval figures restart; priorities, marks, presence, generations, claims
of clips still closing, results and checks are kept. A clip already in CLOSING keeps its pending outcome and cause. Every slot gives
up a reference for each entry that has left a write queue. When every port is quiet the OK is formed in this event and every drive
port is in WRITE with run count 0, else the engine is RESETTING. Three clauses rest on the model's reading. That the ABORTED replies
of different ports are formed from CP0 to CP7 and then from DP0 to DP3, and that the watermarks restart after the closings, at the
free count and the queue lengths these leave, are its choices: the Summary Unit takes its part last (log 12). That a drive port which
the reset leaves without work at a free point settles its run while the engine is RESETTING is deduced from R117 (log 17). That each
drive port's latch is evaluated once, at the queue's length after the whole event, is deduced from R96 (log 10). -/
def Obligations.EngineResetAccepted : Prop :=
  ∀ (tag : Byte) (s : State), Takes s .engineReset tag [] → s.link.engine = .running → ∃ t,
    exec (.engineReset tag []) s = .next t ∧
    t.link.receiver = .hunt ∧ t.link.outstanding = s.link.outstanding ++ [tag] ∧ t.link.transmitter = s.link.transmitter ∧
    (∃ ns : List Notice, t.link.notices = ns.take 64 ∧ t.link.lost = min (ns.length - 64) 65535 ∧
      ∀ n ∈ ns, (∃ p, n = .card p (s.card p).generation .idle) ∨ ∃ id outcome, n = .clipEnded id outcome) ∧
    t.link.replies = s.link.replies
      ++ (allCards.flatMap (fun p => (s.card p).passList) ++ allDrives.flatMap (fun d => (s.drive d).passList)).map (fun r =>
        { kind := r.kind.request, tag := r.tag, body := .refused .aborted, linkRefusal := false })
      ++ (if s.quiet then [{ kind := .engineReset, tag := tag, body := .done, linkRefusal := false }] else []) ∧
    (s.quiet = true → t.link.engine = .running ∧ t.link.resetTag = none ∧
      ∀ d, (t.drive d).phase = .write ∧ (t.drive d).runCount = 0) ∧
    (s.quiet = false → t.link.engine = .resetting ∧ t.link.resetTag = some tag) ∧
    t.store = s.store ∧ t.freeValues = s.freeValues ∧
    t.table.clips.map Clip.id = s.table.clips.map Clip.id ∧ s.table.results <+: t.table.results ∧
    (∀ k c, s.clip? k = some c → ∃ c', t.clip? k = some c' ∧ ClipKept c c' ∧ c'.dests = c.dests ∧
      (c.state.isOpen = true → c'.cause = some .engineReset ∧
        c'.state = if c.inFlight = 0 then .cancelled else .closing) ∧
      (c.state = .closing → c'.cause = c.cause ∧ (0 < c.inFlight → c' = c)) ∧
      (c.state.isTerminal = true → c' = c)) ∧
    (∀ i, t.slot i = Slot.dropRef^[s.entriesNaming i - t.entriesNaming i] (s.slot i)) ∧
    (∀ p, t.arbiter.hold.get p = false) ∧ t.arbiter.roundRobin = 7 ∧ t.arbiter.priority = s.arbiter.priority ∧
    t.arbiter.reserveMark = s.arbiter.reserveMark ∧ t.arbiter.ceiling = s.arbiter.ceiling ∧
    t.arbiter.inService = s.arbiter.inService ∧
    (∀ p, t.card p = { s.card p with
      repairs := [], passList := [], clipQueue := (t.card p).clipQueue, recheck := (t.card p).recheck }) ∧
    (∀ d,
      let closes (k : Nat) : Bool := (s.clip? k).any (fun c => c.state.isOpen)
      let left : DrivePort := (s.drive d).afterEvent { s.drive d with
        passList := [],
        claims := (s.drive d).claims.filter (fun k =>
          (s.clip? k.clip).all (fun c => c.state.isTerminal || decide (c.inFlight ≠ 0))),
        writeQueue := (s.drive d).writeQueue.filter (fun e => !closes e.clip),
        backlog := (s.drive d).backlog.filter (fun e => !closes e.clip) }
      t.drive d = if s.quiet then { left with phase := .write, runCount := 0 } else left) ∧
    t.summary = { s.summary with
      timer := s.summary.interval, sequence := 0, counts := Vector.replicate 29 0,
      lowestFree := t.freeCount, highestQueue := t.summary.highestQueue,
      cumulative := Vector.replicate 29 { value := 0, saturated := false } } ∧
    (∀ d, t.summary.highestQueue.get d = (t.drive d).writeQueue.length)

/-- ENGINE LEAVES RESETTING when no port has an operation in flight: RUNNING, every drive port in WRITE with run count 0, and the reply
OK to the ENGINE RESET is formed. With an operation in flight, or in a RUNNING engine, nothing changes. That this row makes the test
again in a state that no event leaves is the model's reading of it (log 9).
The ending of the last operation in flight, whatever command it is but the power-on reset, ends the reset in the same event: the
engine is RUNNING, the OK is the last reply formed, and every drive port is in WRITE with run count 0. -/
def Obligations.EngineLeavesResetting : Prop :=
  (∀ s : State,
     (∀ tag, s.link.engine = .resetting → s.link.resetTag = some tag → (∀ p, (s.card p).op = none) → (∀ d, (s.drive d).op = none) →
       ∃ t, exec .engineLeavesResetting s = .next t ∧
         t = { s with
           drives := t.drives,
           link := { s.link with
             engine := .running, resetTag := none,
             replies := s.link.replies ++ [{ kind := .engineReset, tag := tag, body := .done, linkRefusal := false }] } } ∧
         ∀ d, t.drive d = { s.drive d with phase := .write, runCount := 0 }) ∧
     (s.link.engine = .running ∨ (∃ p, (s.card p).op ≠ none) ∨ (∃ d, (s.drive d).op ≠ none) →
       exec .engineLeavesResetting s = .next s)) ∧
  (∀ (c : Instr) (tag : Byte) (s t : State),
     s.link.engine = .resetting → s.link.resetTag = some tag → s.quiet = false → exec c s = .next t → t.quiet = true →
     (∀ straps cards drives, c ≠ .powerOnReset straps cards drives) →
     t.link.engine = .running ∧ t.link.resetTag = none ∧
     (∃ before, t.link.replies = before ++ [{ kind := .engineReset, tag := tag, body := .done, linkRefusal := false }]) ∧
     ∀ d, (t.drive d).phase = .write ∧ (t.drive d).runCount = 0)

/-! ### Invariants kept by every step -/

/-- The ports' parts fit their presence states after every step; and a RESETTING engine always has an operation in flight, so the
reset ends at the last ending. -/
def Obligations.StepKeepsPortsConsistent : Prop :=
  (∀ s t : State, PortsConsistent s → step s = .next t → PortsConsistent t) ∧
  (∀ s t : State, ResettingBusy s → step s = .next t → ResettingBusy t)

/-- Every setting stays in its range, and no run count exceeds 64. -/
def Obligations.StepKeepsLegalSettings : Prop :=
  ∀ s t : State, LegalSettings s → step s = .next t → LegalSettings t

/-- The link's bounds hold after every step; and each outstanding tag keeps exactly one place that owes, holds or sends its reply, so
every accepted request gets exactly one reply, and the reply store holds at most 16. -/
def Obligations.StepKeepsTagsAccounted : Prop :=
  (∀ s t : State, LinkBounded s → step s = .next t → LinkBounded t) ∧
  (∀ s t : State, PortsConsistent s → LinkBounded s → TagsAccounted s → step s = .next t → TagsAccounted t) ∧
  (∀ s : State, LinkBounded s → TagsAccounted s → s.link.replies.length ≤ 16)

/-- The table, the result list, the clip queues and the claims agree after every step. Where nothing the table owes was left undone,
nothing is after the step: no clip is due to end, at most one clip of a card port is READING or RECHECKING, and the Check
Store's total is the sum of the chunk counts, at most 1,048,576. -/
def Obligations.StepKeepsTableExact : Prop :=
  ∀ s t : State, TableExact s → step s = .next t → TableExact t ∧ (TableSettled s → TableSettled t)

/-- No sector of a drive is ever in two claims, or in a claim and a DRIVE WRITE. -/
def Obligations.StepKeepsClaimsExclusive : Prop :=
  ∀ s t : State, ClaimsExclusive s → step s = .next t → ClaimsExclusive t

/-- The pool, the write queues, the reads in service and the in-service set agree after every step. -/
def Obligations.StepKeepsPoolExact : Prop :=
  ∀ s t : State, PortsConsistent s → PoolExact s → step s = .next t → PoolExact t

/-- Every step keeps the clips' counts: the in-flight count of every record is the number of operations in flight that touch its clip,
at most 5, and chunks verified, chunks written, chunks read and the chunk count stand in that order for every destination. With
them it keeps the account of waiting work from which the order follows. The premises are invariants of other statements. -/
def Obligations.StepKeepsCountsExact : Prop :=
  ∀ s t : State, PortsConsistent s → TableExact s → TableSettled s → PoolExact s → CountsExact s → WorkAccounted s →
    step s = .next t → CountsExact t ∧ WorkAccounted t

end Slice0
end

