-- ==== Sys2Proof/Laws/State.lean ====
section
/-! SUPPORT. What each update of the state does to each of its parts, and what each accessor then reads. Later proofs
rewrite with these and unfold no update. -/

namespace Sys2Proof.Machine

variable (s : State)

/-! ### Vectors -/

@[simp] theorem vector_get_set_self {α : Type} {n : Nat} (v : Vector α n) (i : Fin n) (x : α) :
    (v.set i.val x i.isLt).get i = x := by
  simp [Vector.get_eq_getElem]

theorem vector_get_set_ne {α : Type} {n : Nat} (v : Vector α n) {i j : Fin n} (h : j ≠ i) (x : α) :
    (v.set i.val x i.isLt).get j = v.get j := by
  have h' : i.val ≠ j.val := fun e => h (Fin.ext e.symm)
  simp [Vector.get_eq_getElem, Vector.getElem_set_ne, h']

theorem vector_get_set {α : Type} {n : Nat} (v : Vector α n) (i j : Fin n) (x : α) :
    (v.set i.val x i.isLt).get j = if j = i then x else v.get j := by
  by_cases h : j = i
  · subst h; simp
  · rw [vector_get_set_ne v h, if_neg h]

@[simp] theorem vector_get_replicate {α : Type} {n : Nat} (x : α) (i : Fin n) : (Vector.replicate n x).get i = x := by
  simp [Vector.get_eq_getElem]

theorem vector_set_get_self {α : Type} {n : Nat} (v : Vector α n) (i : Fin n) : v.set i.val (v.get i) i.isLt = v := by
  apply Vector.ext
  intro j hj
  rw [Vector.getElem_set]
  split
  · rename_i h; subst h; rfl
  · rfl

theorem vector_ext_get {α : Type} {n : Nat} {v w : Vector α n} (h : ∀ i : Fin n, v.get i = w.get i) : v = w := by
  apply Vector.ext
  intro i hi
  exact h ⟨i, hi⟩

/-! ### setCard -/

@[simp] theorem State.setCard_pending (p : CardId) (x : CardPort) : (s.setCard p x).pending = s.pending := rfl
@[simp] theorem State.setCard_link (p : CardId) (x : CardPort) : (s.setCard p x).link = s.link := rfl
@[simp] theorem State.setCard_table (p : CardId) (x : CardPort) : (s.setCard p x).table = s.table := rfl
@[simp] theorem State.setCard_store (p : CardId) (x : CardPort) : (s.setCard p x).store = s.store := rfl
@[simp] theorem State.setCard_slots (p : CardId) (x : CardPort) : (s.setCard p x).slots = s.slots := rfl
@[simp] theorem State.setCard_arbiter (p : CardId) (x : CardPort) : (s.setCard p x).arbiter = s.arbiter := rfl
@[simp] theorem State.setCard_cards (p : CardId) (x : CardPort) : (s.setCard p x).cards = s.cards.set p.val x p.isLt := rfl
@[simp] theorem State.setCard_drives (p : CardId) (x : CardPort) : (s.setCard p x).drives = s.drives := rfl
@[simp] theorem State.setCard_summary (p : CardId) (x : CardPort) : (s.setCard p x).summary = s.summary := rfl
@[simp] theorem State.setCard_freeValues (p : CardId) (x : CardPort) : (s.setCard p x).freeValues = s.freeValues := rfl
@[simp] theorem State.setCard_drive (p : CardId) (x : CardPort) (e' : DriveId) : (s.setCard p x).drive e' = s.drive e' := rfl
@[simp] theorem State.setCard_slot (p : CardId) (x : CardPort) (j' : SlotId) : (s.setCard p x).slot j' = s.slot j' := rfl
@[simp] theorem State.setCard_clip? (p : CardId) (x : CardPort) (k : Nat) : (s.setCard p x).clip? k = s.clip? k := rfl

/-! ### setDrive -/

@[simp] theorem State.setDrive_pending (d : DriveId) (x : DrivePort) : (s.setDrive d x).pending = s.pending := rfl
@[simp] theorem State.setDrive_link (d : DriveId) (x : DrivePort) : (s.setDrive d x).link = s.link := rfl
@[simp] theorem State.setDrive_table (d : DriveId) (x : DrivePort) : (s.setDrive d x).table = s.table := rfl
@[simp] theorem State.setDrive_store (d : DriveId) (x : DrivePort) : (s.setDrive d x).store = s.store := rfl
@[simp] theorem State.setDrive_slots (d : DriveId) (x : DrivePort) : (s.setDrive d x).slots = s.slots := rfl
@[simp] theorem State.setDrive_arbiter (d : DriveId) (x : DrivePort) : (s.setDrive d x).arbiter = s.arbiter := rfl
@[simp] theorem State.setDrive_cards (d : DriveId) (x : DrivePort) : (s.setDrive d x).cards = s.cards := rfl
@[simp] theorem State.setDrive_drives (d : DriveId) (x : DrivePort) : (s.setDrive d x).drives = s.drives.set d.val x d.isLt := rfl
@[simp] theorem State.setDrive_summary (d : DriveId) (x : DrivePort) : (s.setDrive d x).summary = s.summary := rfl
@[simp] theorem State.setDrive_freeValues (d : DriveId) (x : DrivePort) : (s.setDrive d x).freeValues = s.freeValues := rfl
@[simp] theorem State.setDrive_card (d : DriveId) (x : DrivePort) (q' : CardId) : (s.setDrive d x).card q' = s.card q' := rfl
@[simp] theorem State.setDrive_slot (d : DriveId) (x : DrivePort) (j' : SlotId) : (s.setDrive d x).slot j' = s.slot j' := rfl
@[simp] theorem State.setDrive_clip? (d : DriveId) (x : DrivePort) (k : Nat) : (s.setDrive d x).clip? k = s.clip? k := rfl

/-! ### setSlot -/

@[simp] theorem State.setSlot_pending (i : SlotId) (x : Slot) : (s.setSlot i x).pending = s.pending := rfl
@[simp] theorem State.setSlot_link (i : SlotId) (x : Slot) : (s.setSlot i x).link = s.link := rfl
@[simp] theorem State.setSlot_table (i : SlotId) (x : Slot) : (s.setSlot i x).table = s.table := rfl
@[simp] theorem State.setSlot_store (i : SlotId) (x : Slot) : (s.setSlot i x).store = s.store := rfl
@[simp] theorem State.setSlot_slots (i : SlotId) (x : Slot) : (s.setSlot i x).slots = s.slots.set i.val x i.isLt := rfl
@[simp] theorem State.setSlot_arbiter (i : SlotId) (x : Slot) : (s.setSlot i x).arbiter = s.arbiter := rfl
@[simp] theorem State.setSlot_cards (i : SlotId) (x : Slot) : (s.setSlot i x).cards = s.cards := rfl
@[simp] theorem State.setSlot_drives (i : SlotId) (x : Slot) : (s.setSlot i x).drives = s.drives := rfl
@[simp] theorem State.setSlot_summary (i : SlotId) (x : Slot) : (s.setSlot i x).summary = s.summary := rfl
@[simp] theorem State.setSlot_freeValues (i : SlotId) (x : Slot) : (s.setSlot i x).freeValues = s.freeValues := rfl
@[simp] theorem State.setSlot_card (i : SlotId) (x : Slot) (q' : CardId) : (s.setSlot i x).card q' = s.card q' := rfl
@[simp] theorem State.setSlot_drive (i : SlotId) (x : Slot) (e' : DriveId) : (s.setSlot i x).drive e' = s.drive e' := rfl
@[simp] theorem State.setSlot_clip? (i : SlotId) (x : Slot) (k : Nat) : (s.setSlot i x).clip? k = s.clip? k := rfl

/-! ### modCard -/

@[simp] theorem State.modCard_pending (p : CardId) (f : CardPort → CardPort) : (s.modCard p f).pending = s.pending := rfl
@[simp] theorem State.modCard_link (p : CardId) (f : CardPort → CardPort) : (s.modCard p f).link = s.link := rfl
@[simp] theorem State.modCard_table (p : CardId) (f : CardPort → CardPort) : (s.modCard p f).table = s.table := rfl
@[simp] theorem State.modCard_store (p : CardId) (f : CardPort → CardPort) : (s.modCard p f).store = s.store := rfl
@[simp] theorem State.modCard_slots (p : CardId) (f : CardPort → CardPort) : (s.modCard p f).slots = s.slots := rfl
@[simp] theorem State.modCard_arbiter (p : CardId) (f : CardPort → CardPort) : (s.modCard p f).arbiter = s.arbiter := rfl
@[simp] theorem State.modCard_cards (p : CardId) (f : CardPort → CardPort) : (s.modCard p f).cards = s.cards.set p.val (f (s.card p)) p.isLt := rfl
@[simp] theorem State.modCard_drives (p : CardId) (f : CardPort → CardPort) : (s.modCard p f).drives = s.drives := rfl
@[simp] theorem State.modCard_summary (p : CardId) (f : CardPort → CardPort) : (s.modCard p f).summary = s.summary := rfl
@[simp] theorem State.modCard_freeValues (p : CardId) (f : CardPort → CardPort) : (s.modCard p f).freeValues = s.freeValues := rfl
@[simp] theorem State.modCard_drive (p : CardId) (f : CardPort → CardPort) (e' : DriveId) : (s.modCard p f).drive e' = s.drive e' := rfl
@[simp] theorem State.modCard_slot (p : CardId) (f : CardPort → CardPort) (j' : SlotId) : (s.modCard p f).slot j' = s.slot j' := rfl
@[simp] theorem State.modCard_clip? (p : CardId) (f : CardPort → CardPort) (k : Nat) : (s.modCard p f).clip? k = s.clip? k := rfl

/-! ### modDrive -/

@[simp] theorem State.modDrive_pending (d : DriveId) (f : DrivePort → DrivePort) : (s.modDrive d f).pending = s.pending := rfl
@[simp] theorem State.modDrive_link (d : DriveId) (f : DrivePort → DrivePort) : (s.modDrive d f).link = s.link := rfl
@[simp] theorem State.modDrive_table (d : DriveId) (f : DrivePort → DrivePort) : (s.modDrive d f).table = s.table := rfl
@[simp] theorem State.modDrive_store (d : DriveId) (f : DrivePort → DrivePort) : (s.modDrive d f).store = s.store := rfl
@[simp] theorem State.modDrive_slots (d : DriveId) (f : DrivePort → DrivePort) : (s.modDrive d f).slots = s.slots := rfl
@[simp] theorem State.modDrive_arbiter (d : DriveId) (f : DrivePort → DrivePort) : (s.modDrive d f).arbiter = s.arbiter := rfl
@[simp] theorem State.modDrive_cards (d : DriveId) (f : DrivePort → DrivePort) : (s.modDrive d f).cards = s.cards := rfl
@[simp] theorem State.modDrive_drives (d : DriveId) (f : DrivePort → DrivePort) : (s.modDrive d f).drives = s.drives.set d.val (f (s.drive d)) d.isLt := rfl
@[simp] theorem State.modDrive_summary (d : DriveId) (f : DrivePort → DrivePort) : (s.modDrive d f).summary = s.summary := rfl
@[simp] theorem State.modDrive_freeValues (d : DriveId) (f : DrivePort → DrivePort) : (s.modDrive d f).freeValues = s.freeValues := rfl
@[simp] theorem State.modDrive_card (d : DriveId) (f : DrivePort → DrivePort) (q' : CardId) : (s.modDrive d f).card q' = s.card q' := rfl
@[simp] theorem State.modDrive_slot (d : DriveId) (f : DrivePort → DrivePort) (j' : SlotId) : (s.modDrive d f).slot j' = s.slot j' := rfl
@[simp] theorem State.modDrive_clip? (d : DriveId) (f : DrivePort → DrivePort) (k : Nat) : (s.modDrive d f).clip? k = s.clip? k := rfl

/-! ### modSlot -/

@[simp] theorem State.modSlot_pending (i : SlotId) (f : Slot → Slot) : (s.modSlot i f).pending = s.pending := rfl
@[simp] theorem State.modSlot_link (i : SlotId) (f : Slot → Slot) : (s.modSlot i f).link = s.link := rfl
@[simp] theorem State.modSlot_table (i : SlotId) (f : Slot → Slot) : (s.modSlot i f).table = s.table := rfl
@[simp] theorem State.modSlot_store (i : SlotId) (f : Slot → Slot) : (s.modSlot i f).store = s.store := rfl
@[simp] theorem State.modSlot_slots (i : SlotId) (f : Slot → Slot) : (s.modSlot i f).slots = s.slots.set i.val (f (s.slot i)) i.isLt := rfl
@[simp] theorem State.modSlot_arbiter (i : SlotId) (f : Slot → Slot) : (s.modSlot i f).arbiter = s.arbiter := rfl
@[simp] theorem State.modSlot_cards (i : SlotId) (f : Slot → Slot) : (s.modSlot i f).cards = s.cards := rfl
@[simp] theorem State.modSlot_drives (i : SlotId) (f : Slot → Slot) : (s.modSlot i f).drives = s.drives := rfl
@[simp] theorem State.modSlot_summary (i : SlotId) (f : Slot → Slot) : (s.modSlot i f).summary = s.summary := rfl
@[simp] theorem State.modSlot_freeValues (i : SlotId) (f : Slot → Slot) : (s.modSlot i f).freeValues = s.freeValues := rfl
@[simp] theorem State.modSlot_card (i : SlotId) (f : Slot → Slot) (q' : CardId) : (s.modSlot i f).card q' = s.card q' := rfl
@[simp] theorem State.modSlot_drive (i : SlotId) (f : Slot → Slot) (e' : DriveId) : (s.modSlot i f).drive e' = s.drive e' := rfl
@[simp] theorem State.modSlot_clip? (i : SlotId) (f : Slot → Slot) (k : Nat) : (s.modSlot i f).clip? k = s.clip? k := rfl

/-! ### modLink -/

@[simp] theorem State.modLink_pending (f : Link → Link) : (s.modLink f).pending = s.pending := rfl
@[simp] theorem State.modLink_link (f : Link → Link) : (s.modLink f).link = f s.link := rfl
@[simp] theorem State.modLink_table (f : Link → Link) : (s.modLink f).table = s.table := rfl
@[simp] theorem State.modLink_store (f : Link → Link) : (s.modLink f).store = s.store := rfl
@[simp] theorem State.modLink_slots (f : Link → Link) : (s.modLink f).slots = s.slots := rfl
@[simp] theorem State.modLink_arbiter (f : Link → Link) : (s.modLink f).arbiter = s.arbiter := rfl
@[simp] theorem State.modLink_cards (f : Link → Link) : (s.modLink f).cards = s.cards := rfl
@[simp] theorem State.modLink_drives (f : Link → Link) : (s.modLink f).drives = s.drives := rfl
@[simp] theorem State.modLink_summary (f : Link → Link) : (s.modLink f).summary = s.summary := rfl
@[simp] theorem State.modLink_freeValues (f : Link → Link) : (s.modLink f).freeValues = s.freeValues := rfl
@[simp] theorem State.modLink_card (f : Link → Link) (q' : CardId) : (s.modLink f).card q' = s.card q' := rfl
@[simp] theorem State.modLink_drive (f : Link → Link) (e' : DriveId) : (s.modLink f).drive e' = s.drive e' := rfl
@[simp] theorem State.modLink_slot (f : Link → Link) (j' : SlotId) : (s.modLink f).slot j' = s.slot j' := rfl
@[simp] theorem State.modLink_clip? (f : Link → Link) (k : Nat) : (s.modLink f).clip? k = s.clip? k := rfl

/-! ### modTable -/

@[simp] theorem State.modTable_pending (f : Table → Table) : (s.modTable f).pending = s.pending := rfl
@[simp] theorem State.modTable_link (f : Table → Table) : (s.modTable f).link = s.link := rfl
@[simp] theorem State.modTable_table (f : Table → Table) : (s.modTable f).table = f s.table := rfl
@[simp] theorem State.modTable_store (f : Table → Table) : (s.modTable f).store = s.store := rfl
@[simp] theorem State.modTable_slots (f : Table → Table) : (s.modTable f).slots = s.slots := rfl
@[simp] theorem State.modTable_arbiter (f : Table → Table) : (s.modTable f).arbiter = s.arbiter := rfl
@[simp] theorem State.modTable_cards (f : Table → Table) : (s.modTable f).cards = s.cards := rfl
@[simp] theorem State.modTable_drives (f : Table → Table) : (s.modTable f).drives = s.drives := rfl
@[simp] theorem State.modTable_summary (f : Table → Table) : (s.modTable f).summary = s.summary := rfl
@[simp] theorem State.modTable_freeValues (f : Table → Table) : (s.modTable f).freeValues = s.freeValues := rfl
@[simp] theorem State.modTable_card (f : Table → Table) (q' : CardId) : (s.modTable f).card q' = s.card q' := rfl
@[simp] theorem State.modTable_drive (f : Table → Table) (e' : DriveId) : (s.modTable f).drive e' = s.drive e' := rfl
@[simp] theorem State.modTable_slot (f : Table → Table) (j' : SlotId) : (s.modTable f).slot j' = s.slot j' := rfl

/-! ### modStore -/

@[simp] theorem State.modStore_pending (f : CheckStore → CheckStore) : (s.modStore f).pending = s.pending := rfl
@[simp] theorem State.modStore_link (f : CheckStore → CheckStore) : (s.modStore f).link = s.link := rfl
@[simp] theorem State.modStore_table (f : CheckStore → CheckStore) : (s.modStore f).table = s.table := rfl
@[simp] theorem State.modStore_store (f : CheckStore → CheckStore) : (s.modStore f).store = f s.store := rfl
@[simp] theorem State.modStore_slots (f : CheckStore → CheckStore) : (s.modStore f).slots = s.slots := rfl
@[simp] theorem State.modStore_arbiter (f : CheckStore → CheckStore) : (s.modStore f).arbiter = s.arbiter := rfl
@[simp] theorem State.modStore_cards (f : CheckStore → CheckStore) : (s.modStore f).cards = s.cards := rfl
@[simp] theorem State.modStore_drives (f : CheckStore → CheckStore) : (s.modStore f).drives = s.drives := rfl
@[simp] theorem State.modStore_summary (f : CheckStore → CheckStore) : (s.modStore f).summary = s.summary := rfl
@[simp] theorem State.modStore_freeValues (f : CheckStore → CheckStore) : (s.modStore f).freeValues = s.freeValues := rfl
@[simp] theorem State.modStore_card (f : CheckStore → CheckStore) (q' : CardId) : (s.modStore f).card q' = s.card q' := rfl
@[simp] theorem State.modStore_drive (f : CheckStore → CheckStore) (e' : DriveId) : (s.modStore f).drive e' = s.drive e' := rfl
@[simp] theorem State.modStore_slot (f : CheckStore → CheckStore) (j' : SlotId) : (s.modStore f).slot j' = s.slot j' := rfl
@[simp] theorem State.modStore_clip? (f : CheckStore → CheckStore) (k : Nat) : (s.modStore f).clip? k = s.clip? k := rfl

/-! ### modArbiter -/

@[simp] theorem State.modArbiter_pending (f : Arbiter → Arbiter) : (s.modArbiter f).pending = s.pending := rfl
@[simp] theorem State.modArbiter_link (f : Arbiter → Arbiter) : (s.modArbiter f).link = s.link := rfl
@[simp] theorem State.modArbiter_table (f : Arbiter → Arbiter) : (s.modArbiter f).table = s.table := rfl
@[simp] theorem State.modArbiter_store (f : Arbiter → Arbiter) : (s.modArbiter f).store = s.store := rfl
@[simp] theorem State.modArbiter_slots (f : Arbiter → Arbiter) : (s.modArbiter f).slots = s.slots := rfl
@[simp] theorem State.modArbiter_arbiter (f : Arbiter → Arbiter) : (s.modArbiter f).arbiter = f s.arbiter := rfl
@[simp] theorem State.modArbiter_cards (f : Arbiter → Arbiter) : (s.modArbiter f).cards = s.cards := rfl
@[simp] theorem State.modArbiter_drives (f : Arbiter → Arbiter) : (s.modArbiter f).drives = s.drives := rfl
@[simp] theorem State.modArbiter_summary (f : Arbiter → Arbiter) : (s.modArbiter f).summary = s.summary := rfl
@[simp] theorem State.modArbiter_freeValues (f : Arbiter → Arbiter) : (s.modArbiter f).freeValues = s.freeValues := rfl
@[simp] theorem State.modArbiter_card (f : Arbiter → Arbiter) (q' : CardId) : (s.modArbiter f).card q' = s.card q' := rfl
@[simp] theorem State.modArbiter_drive (f : Arbiter → Arbiter) (e' : DriveId) : (s.modArbiter f).drive e' = s.drive e' := rfl
@[simp] theorem State.modArbiter_slot (f : Arbiter → Arbiter) (j' : SlotId) : (s.modArbiter f).slot j' = s.slot j' := rfl
@[simp] theorem State.modArbiter_clip? (f : Arbiter → Arbiter) (k : Nat) : (s.modArbiter f).clip? k = s.clip? k := rfl

/-! ### modSummary -/

@[simp] theorem State.modSummary_pending (f : Summary → Summary) : (s.modSummary f).pending = s.pending := rfl
@[simp] theorem State.modSummary_link (f : Summary → Summary) : (s.modSummary f).link = s.link := rfl
@[simp] theorem State.modSummary_table (f : Summary → Summary) : (s.modSummary f).table = s.table := rfl
@[simp] theorem State.modSummary_store (f : Summary → Summary) : (s.modSummary f).store = s.store := rfl
@[simp] theorem State.modSummary_slots (f : Summary → Summary) : (s.modSummary f).slots = s.slots := rfl
@[simp] theorem State.modSummary_arbiter (f : Summary → Summary) : (s.modSummary f).arbiter = s.arbiter := rfl
@[simp] theorem State.modSummary_cards (f : Summary → Summary) : (s.modSummary f).cards = s.cards := rfl
@[simp] theorem State.modSummary_drives (f : Summary → Summary) : (s.modSummary f).drives = s.drives := rfl
@[simp] theorem State.modSummary_summary (f : Summary → Summary) : (s.modSummary f).summary = f s.summary := rfl
@[simp] theorem State.modSummary_freeValues (f : Summary → Summary) : (s.modSummary f).freeValues = s.freeValues := rfl
@[simp] theorem State.modSummary_card (f : Summary → Summary) (q' : CardId) : (s.modSummary f).card q' = s.card q' := rfl
@[simp] theorem State.modSummary_drive (f : Summary → Summary) (e' : DriveId) : (s.modSummary f).drive e' = s.drive e' := rfl
@[simp] theorem State.modSummary_slot (f : Summary → Summary) (j' : SlotId) : (s.modSummary f).slot j' = s.slot j' := rfl
@[simp] theorem State.modSummary_clip? (f : Summary → Summary) (k : Nat) : (s.modSummary f).clip? k = s.clip? k := rfl

/-! ### modClip -/

@[simp] theorem State.modClip_pending (id : Nat) (f : Clip → Clip) : (s.modClip id f).pending = s.pending := rfl
@[simp] theorem State.modClip_link (id : Nat) (f : Clip → Clip) : (s.modClip id f).link = s.link := rfl
@[simp] theorem State.modClip_table (id : Nat) (f : Clip → Clip) : (s.modClip id f).table = s.table.modClip id f := rfl
@[simp] theorem State.modClip_store (id : Nat) (f : Clip → Clip) : (s.modClip id f).store = s.store := rfl
@[simp] theorem State.modClip_slots (id : Nat) (f : Clip → Clip) : (s.modClip id f).slots = s.slots := rfl
@[simp] theorem State.modClip_arbiter (id : Nat) (f : Clip → Clip) : (s.modClip id f).arbiter = s.arbiter := rfl
@[simp] theorem State.modClip_cards (id : Nat) (f : Clip → Clip) : (s.modClip id f).cards = s.cards := rfl
@[simp] theorem State.modClip_drives (id : Nat) (f : Clip → Clip) : (s.modClip id f).drives = s.drives := rfl
@[simp] theorem State.modClip_summary (id : Nat) (f : Clip → Clip) : (s.modClip id f).summary = s.summary := rfl
@[simp] theorem State.modClip_freeValues (id : Nat) (f : Clip → Clip) : (s.modClip id f).freeValues = s.freeValues := rfl
@[simp] theorem State.modClip_card (id : Nat) (f : Clip → Clip) (q' : CardId) : (s.modClip id f).card q' = s.card q' := rfl
@[simp] theorem State.modClip_drive (id : Nat) (f : Clip → Clip) (e' : DriveId) : (s.modClip id f).drive e' = s.drive e' := rfl
@[simp] theorem State.modClip_slot (id : Nat) (f : Clip → Clip) (j' : SlotId) : (s.modClip id f).slot j' = s.slot j' := rfl

/-! ### raise -/

@[simp] theorem State.raise_pending (n : Notice) : (s.raise n).pending = s.pending := rfl
@[simp] theorem State.raise_link (n : Notice) : (s.raise n).link = s.link.raise n := rfl
@[simp] theorem State.raise_table (n : Notice) : (s.raise n).table = s.table := rfl
@[simp] theorem State.raise_store (n : Notice) : (s.raise n).store = s.store := rfl
@[simp] theorem State.raise_slots (n : Notice) : (s.raise n).slots = s.slots := rfl
@[simp] theorem State.raise_arbiter (n : Notice) : (s.raise n).arbiter = s.arbiter := rfl
@[simp] theorem State.raise_cards (n : Notice) : (s.raise n).cards = s.cards := rfl
@[simp] theorem State.raise_drives (n : Notice) : (s.raise n).drives = s.drives := rfl
@[simp] theorem State.raise_summary (n : Notice) : (s.raise n).summary = s.summary := rfl
@[simp] theorem State.raise_freeValues (n : Notice) : (s.raise n).freeValues = s.freeValues := rfl
@[simp] theorem State.raise_card (n : Notice) (q' : CardId) : (s.raise n).card q' = s.card q' := rfl
@[simp] theorem State.raise_drive (n : Notice) (e' : DriveId) : (s.raise n).drive e' = s.drive e' := rfl
@[simp] theorem State.raise_slot (n : Notice) (j' : SlotId) : (s.raise n).slot j' = s.slot j' := rfl
@[simp] theorem State.raise_clip? (n : Notice) (k : Nat) : (s.raise n).clip? k = s.clip? k := rfl

/-! ### form -/

@[simp] theorem State.form_pending (r : Reply) : (s.form r).pending = s.pending := rfl
@[simp] theorem State.form_link (r : Reply) : (s.form r).link = { s.link with replies := s.link.replies ++ [r] } := rfl
@[simp] theorem State.form_table (r : Reply) : (s.form r).table = s.table := rfl
@[simp] theorem State.form_store (r : Reply) : (s.form r).store = s.store := rfl
@[simp] theorem State.form_slots (r : Reply) : (s.form r).slots = s.slots := rfl
@[simp] theorem State.form_arbiter (r : Reply) : (s.form r).arbiter = s.arbiter := rfl
@[simp] theorem State.form_cards (r : Reply) : (s.form r).cards = s.cards := rfl
@[simp] theorem State.form_drives (r : Reply) : (s.form r).drives = s.drives := rfl
@[simp] theorem State.form_summary (r : Reply) : (s.form r).summary = s.summary := rfl
@[simp] theorem State.form_freeValues (r : Reply) : (s.form r).freeValues = s.freeValues := rfl
@[simp] theorem State.form_card (r : Reply) (q' : CardId) : (s.form r).card q' = s.card q' := rfl
@[simp] theorem State.form_drive (r : Reply) (e' : DriveId) : (s.form r).drive e' = s.drive e' := rfl
@[simp] theorem State.form_slot (r : Reply) (j' : SlotId) : (s.form r).slot j' = s.slot j' := rfl
@[simp] theorem State.form_clip? (r : Reply) (k : Nat) : (s.form r).clip? k = s.clip? k := rfl

/-! ### reply -/

@[simp] theorem State.reply_pending (kind : RequestKind) (tag : Byte) (body : ReplyBody) : (s.reply kind tag body).pending = s.pending := rfl
@[simp] theorem State.reply_link (kind : RequestKind) (tag : Byte) (body : ReplyBody) : (s.reply kind tag body).link = { s.link with replies := s.link.replies ++ [{ kind := kind, tag := tag, body := body, linkRefusal := false }] } := rfl
@[simp] theorem State.reply_table (kind : RequestKind) (tag : Byte) (body : ReplyBody) : (s.reply kind tag body).table = s.table := rfl
@[simp] theorem State.reply_store (kind : RequestKind) (tag : Byte) (body : ReplyBody) : (s.reply kind tag body).store = s.store := rfl
@[simp] theorem State.reply_slots (kind : RequestKind) (tag : Byte) (body : ReplyBody) : (s.reply kind tag body).slots = s.slots := rfl
@[simp] theorem State.reply_arbiter (kind : RequestKind) (tag : Byte) (body : ReplyBody) : (s.reply kind tag body).arbiter = s.arbiter := rfl
@[simp] theorem State.reply_cards (kind : RequestKind) (tag : Byte) (body : ReplyBody) : (s.reply kind tag body).cards = s.cards := rfl
@[simp] theorem State.reply_drives (kind : RequestKind) (tag : Byte) (body : ReplyBody) : (s.reply kind tag body).drives = s.drives := rfl
@[simp] theorem State.reply_summary (kind : RequestKind) (tag : Byte) (body : ReplyBody) : (s.reply kind tag body).summary = s.summary := rfl
@[simp] theorem State.reply_freeValues (kind : RequestKind) (tag : Byte) (body : ReplyBody) : (s.reply kind tag body).freeValues = s.freeValues := rfl
@[simp] theorem State.reply_card (kind : RequestKind) (tag : Byte) (body : ReplyBody) (q' : CardId) : (s.reply kind tag body).card q' = s.card q' := rfl
@[simp] theorem State.reply_drive (kind : RequestKind) (tag : Byte) (body : ReplyBody) (e' : DriveId) : (s.reply kind tag body).drive e' = s.drive e' := rfl
@[simp] theorem State.reply_slot (kind : RequestKind) (tag : Byte) (body : ReplyBody) (j' : SlotId) : (s.reply kind tag body).slot j' = s.slot j' := rfl
@[simp] theorem State.reply_clip? (kind : RequestKind) (tag : Byte) (body : ReplyBody) (k : Nat) : (s.reply kind tag body).clip? k = s.clip? k := rfl

/-! ### answerPass -/

@[simp] theorem State.answerPass_pending (r : PassRecord) (body : ReplyBody) : (s.answerPass r body).pending = s.pending := rfl
@[simp] theorem State.answerPass_link (r : PassRecord) (body : ReplyBody) : (s.answerPass r body).link = { s.link with replies := s.link.replies ++ [{ kind := r.kind.request, tag := r.tag, body := body, linkRefusal := false }] } := rfl
@[simp] theorem State.answerPass_table (r : PassRecord) (body : ReplyBody) : (s.answerPass r body).table = s.table := rfl
@[simp] theorem State.answerPass_store (r : PassRecord) (body : ReplyBody) : (s.answerPass r body).store = s.store := rfl
@[simp] theorem State.answerPass_slots (r : PassRecord) (body : ReplyBody) : (s.answerPass r body).slots = s.slots := rfl
@[simp] theorem State.answerPass_arbiter (r : PassRecord) (body : ReplyBody) : (s.answerPass r body).arbiter = s.arbiter := rfl
@[simp] theorem State.answerPass_cards (r : PassRecord) (body : ReplyBody) : (s.answerPass r body).cards = s.cards := rfl
@[simp] theorem State.answerPass_drives (r : PassRecord) (body : ReplyBody) : (s.answerPass r body).drives = s.drives := rfl
@[simp] theorem State.answerPass_summary (r : PassRecord) (body : ReplyBody) : (s.answerPass r body).summary = s.summary := rfl
@[simp] theorem State.answerPass_freeValues (r : PassRecord) (body : ReplyBody) : (s.answerPass r body).freeValues = s.freeValues := rfl
@[simp] theorem State.answerPass_card (r : PassRecord) (body : ReplyBody) (q' : CardId) : (s.answerPass r body).card q' = s.card q' := rfl
@[simp] theorem State.answerPass_drive (r : PassRecord) (body : ReplyBody) (e' : DriveId) : (s.answerPass r body).drive e' = s.drive e' := rfl
@[simp] theorem State.answerPass_slot (r : PassRecord) (body : ReplyBody) (j' : SlotId) : (s.answerPass r body).slot j' = s.slot j' := rfl
@[simp] theorem State.answerPass_clip? (r : PassRecord) (body : ReplyBody) (k : Nat) : (s.answerPass r body).clip? k = s.clip? k := rfl

/-! ### tally -/

@[simp] theorem State.tally_pending (i : Fin Config.counterCount) : (s.tally i).pending = s.pending := rfl
@[simp] theorem State.tally_link (i : Fin Config.counterCount) : (s.tally i).link = s.link := rfl
@[simp] theorem State.tally_table (i : Fin Config.counterCount) : (s.tally i).table = s.table := rfl
@[simp] theorem State.tally_store (i : Fin Config.counterCount) : (s.tally i).store = s.store := rfl
@[simp] theorem State.tally_slots (i : Fin Config.counterCount) : (s.tally i).slots = s.slots := rfl
@[simp] theorem State.tally_arbiter (i : Fin Config.counterCount) : (s.tally i).arbiter = s.arbiter := rfl
@[simp] theorem State.tally_cards (i : Fin Config.counterCount) : (s.tally i).cards = s.cards := rfl
@[simp] theorem State.tally_drives (i : Fin Config.counterCount) : (s.tally i).drives = s.drives := rfl
@[simp] theorem State.tally_freeValues (i : Fin Config.counterCount) : (s.tally i).freeValues = s.freeValues := rfl
@[simp] theorem State.tally_card (i : Fin Config.counterCount) (q' : CardId) : (s.tally i).card q' = s.card q' := rfl
@[simp] theorem State.tally_drive (i : Fin Config.counterCount) (e' : DriveId) : (s.tally i).drive e' = s.drive e' := rfl
@[simp] theorem State.tally_slot (i : Fin Config.counterCount) (j' : SlotId) : (s.tally i).slot j' = s.slot j' := rfl
@[simp] theorem State.tally_clip? (i : Fin Config.counterCount) (k : Nat) : (s.tally i).clip? k = s.clip? k := rfl

/-! ### accepted -/

@[simp] theorem State.accepted_pending (tag : Byte) : (s.accepted tag).pending = s.pending := rfl
@[simp] theorem State.accepted_link (tag : Byte) : (s.accepted tag).link = { s.link.frameTaken with outstanding := s.link.outstanding ++ [tag] } := rfl
@[simp] theorem State.accepted_table (tag : Byte) : (s.accepted tag).table = s.table := rfl
@[simp] theorem State.accepted_store (tag : Byte) : (s.accepted tag).store = s.store := rfl
@[simp] theorem State.accepted_slots (tag : Byte) : (s.accepted tag).slots = s.slots := rfl
@[simp] theorem State.accepted_arbiter (tag : Byte) : (s.accepted tag).arbiter = s.arbiter := rfl
@[simp] theorem State.accepted_cards (tag : Byte) : (s.accepted tag).cards = s.cards := rfl
@[simp] theorem State.accepted_drives (tag : Byte) : (s.accepted tag).drives = s.drives := rfl
@[simp] theorem State.accepted_summary (tag : Byte) : (s.accepted tag).summary = s.summary := rfl
@[simp] theorem State.accepted_freeValues (tag : Byte) : (s.accepted tag).freeValues = s.freeValues := rfl
@[simp] theorem State.accepted_card (tag : Byte) (q' : CardId) : (s.accepted tag).card q' = s.card q' := rfl
@[simp] theorem State.accepted_drive (tag : Byte) (e' : DriveId) : (s.accepted tag).drive e' = s.drive e' := rfl
@[simp] theorem State.accepted_slot (tag : Byte) (j' : SlotId) : (s.accepted tag).slot j' = s.slot j' := rfl
@[simp] theorem State.accepted_clip? (tag : Byte) (k : Nat) : (s.accepted tag).clip? k = s.clip? k := rfl

/-! ### endService -/

@[simp] theorem State.endService_pending (p : CardId) : (s.endService p).pending = s.pending := rfl
@[simp] theorem State.endService_link (p : CardId) : (s.endService p).link = s.link := rfl
@[simp] theorem State.endService_table (p : CardId) : (s.endService p).table = s.table := rfl
@[simp] theorem State.endService_store (p : CardId) : (s.endService p).store = s.store := rfl
@[simp] theorem State.endService_slots (p : CardId) : (s.endService p).slots = s.slots := rfl
@[simp] theorem State.endService_arbiter (p : CardId) : (s.endService p).arbiter = { s.arbiter with inService := s.arbiter.inService.set p.val none p.isLt } := rfl
@[simp] theorem State.endService_cards (p : CardId) : (s.endService p).cards = s.cards := rfl
@[simp] theorem State.endService_drives (p : CardId) : (s.endService p).drives = s.drives := rfl
@[simp] theorem State.endService_summary (p : CardId) : (s.endService p).summary = s.summary := rfl
@[simp] theorem State.endService_freeValues (p : CardId) : (s.endService p).freeValues = s.freeValues := rfl
@[simp] theorem State.endService_card (p : CardId) (q' : CardId) : (s.endService p).card q' = s.card q' := rfl
@[simp] theorem State.endService_drive (p : CardId) (e' : DriveId) : (s.endService p).drive e' = s.drive e' := rfl
@[simp] theorem State.endService_slot (p : CardId) (j' : SlotId) : (s.endService p).slot j' = s.slot j' := rfl
@[simp] theorem State.endService_clip? (p : CardId) (k : Nat) : (s.endService p).clip? k = s.clip? k := rfl

/-! ### raiseInFlight -/

@[simp] theorem State.raiseInFlight_pending (id : Nat) : (s.raiseInFlight id).pending = s.pending := rfl
@[simp] theorem State.raiseInFlight_link (id : Nat) : (s.raiseInFlight id).link = s.link := rfl
@[simp] theorem State.raiseInFlight_table (id : Nat) : (s.raiseInFlight id).table = s.table.modClip id (fun c => { c with inFlight := c.inFlight + 1 }) := rfl
@[simp] theorem State.raiseInFlight_store (id : Nat) : (s.raiseInFlight id).store = s.store := rfl
@[simp] theorem State.raiseInFlight_slots (id : Nat) : (s.raiseInFlight id).slots = s.slots := rfl
@[simp] theorem State.raiseInFlight_arbiter (id : Nat) : (s.raiseInFlight id).arbiter = s.arbiter := rfl
@[simp] theorem State.raiseInFlight_cards (id : Nat) : (s.raiseInFlight id).cards = s.cards := rfl
@[simp] theorem State.raiseInFlight_drives (id : Nat) : (s.raiseInFlight id).drives = s.drives := rfl
@[simp] theorem State.raiseInFlight_summary (id : Nat) : (s.raiseInFlight id).summary = s.summary := rfl
@[simp] theorem State.raiseInFlight_freeValues (id : Nat) : (s.raiseInFlight id).freeValues = s.freeValues := rfl
@[simp] theorem State.raiseInFlight_card (id : Nat) (q' : CardId) : (s.raiseInFlight id).card q' = s.card q' := rfl
@[simp] theorem State.raiseInFlight_drive (id : Nat) (e' : DriveId) : (s.raiseInFlight id).drive e' = s.drive e' := rfl
@[simp] theorem State.raiseInFlight_slot (id : Nat) (j' : SlotId) : (s.raiseInFlight id).slot j' = s.slot j' := rfl

/-! ### lowerInFlight -/

@[simp] theorem State.lowerInFlight_pending (id : Nat) : (s.lowerInFlight id).pending = s.pending := rfl
@[simp] theorem State.lowerInFlight_link (id : Nat) : (s.lowerInFlight id).link = s.link := rfl
@[simp] theorem State.lowerInFlight_table (id : Nat) : (s.lowerInFlight id).table = s.table.modClip id (fun c => { c with inFlight := c.inFlight - 1 }) := rfl
@[simp] theorem State.lowerInFlight_store (id : Nat) : (s.lowerInFlight id).store = s.store := rfl
@[simp] theorem State.lowerInFlight_slots (id : Nat) : (s.lowerInFlight id).slots = s.slots := rfl
@[simp] theorem State.lowerInFlight_arbiter (id : Nat) : (s.lowerInFlight id).arbiter = s.arbiter := rfl
@[simp] theorem State.lowerInFlight_cards (id : Nat) : (s.lowerInFlight id).cards = s.cards := rfl
@[simp] theorem State.lowerInFlight_drives (id : Nat) : (s.lowerInFlight id).drives = s.drives := rfl
@[simp] theorem State.lowerInFlight_summary (id : Nat) : (s.lowerInFlight id).summary = s.summary := rfl
@[simp] theorem State.lowerInFlight_freeValues (id : Nat) : (s.lowerInFlight id).freeValues = s.freeValues := rfl
@[simp] theorem State.lowerInFlight_card (id : Nat) (q' : CardId) : (s.lowerInFlight id).card q' = s.card q' := rfl
@[simp] theorem State.lowerInFlight_drive (id : Nat) (e' : DriveId) : (s.lowerInFlight id).drive e' = s.drive e' := rfl
@[simp] theorem State.lowerInFlight_slot (id : Nat) (j' : SlotId) : (s.lowerInFlight id).slot j' = s.slot j' := rfl

/-! ### appendWrite -/

@[simp] theorem State.appendWrite_pending (d : DriveId) (e : WriteEntry) : (s.appendWrite d e).pending = s.pending := rfl
@[simp] theorem State.appendWrite_link (d : DriveId) (e : WriteEntry) : (s.appendWrite d e).link = s.link := rfl
@[simp] theorem State.appendWrite_table (d : DriveId) (e : WriteEntry) : (s.appendWrite d e).table = s.table := rfl
@[simp] theorem State.appendWrite_store (d : DriveId) (e : WriteEntry) : (s.appendWrite d e).store = s.store := rfl
@[simp] theorem State.appendWrite_slots (d : DriveId) (e : WriteEntry) : (s.appendWrite d e).slots = s.slots := rfl
@[simp] theorem State.appendWrite_arbiter (d : DriveId) (e : WriteEntry) : (s.appendWrite d e).arbiter = s.arbiter := rfl
@[simp] theorem State.appendWrite_cards (d : DriveId) (e : WriteEntry) : (s.appendWrite d e).cards = s.cards := rfl
@[simp] theorem State.appendWrite_summary (d : DriveId) (e : WriteEntry) : (s.appendWrite d e).summary = s.summary := rfl
@[simp] theorem State.appendWrite_freeValues (d : DriveId) (e : WriteEntry) : (s.appendWrite d e).freeValues = s.freeValues := rfl
@[simp] theorem State.appendWrite_card (d : DriveId) (e : WriteEntry) (q' : CardId) : (s.appendWrite d e).card q' = s.card q' := rfl
@[simp] theorem State.appendWrite_slot (d : DriveId) (e : WriteEntry) (j' : SlotId) : (s.appendWrite d e).slot j' = s.slot j' := rfl
@[simp] theorem State.appendWrite_clip? (d : DriveId) (e : WriteEntry) (k : Nat) : (s.appendWrite d e).clip? k = s.clip? k := rfl

/-! ### Reading back what was written -/

@[simp] theorem State.setCard_card_self (p : CardId) (x : CardPort) : (s.setCard p x).card p = x :=
  vector_get_set_self s.cards p x

theorem State.setCard_card_ne {p k : CardId} (h : k ≠ p) (x : CardPort) : (s.setCard p x).card k = s.card k :=
  vector_get_set_ne s.cards h x

theorem State.setCard_card (p k : CardId) (x : CardPort) : (s.setCard p x).card k = if k = p then x else s.card k :=
  vector_get_set s.cards p k x

@[simp] theorem State.modCard_card_self (p : CardId) (f : CardPort → CardPort) : (s.modCard p f).card p = f (s.card p) :=
  vector_get_set_self s.cards p _

theorem State.modCard_card_ne {p k : CardId} (h : k ≠ p) (f : CardPort → CardPort) : (s.modCard p f).card k = s.card k :=
  vector_get_set_ne s.cards h _

theorem State.modCard_card (p k : CardId) (f : CardPort → CardPort) :
    (s.modCard p f).card k = if k = p then f (s.card p) else s.card k :=
  vector_get_set s.cards p k _

@[simp] theorem State.setDrive_drive_self (d : DriveId) (x : DrivePort) : (s.setDrive d x).drive d = x :=
  vector_get_set_self s.drives d x

theorem State.setDrive_drive_ne {d k : DriveId} (h : k ≠ d) (x : DrivePort) : (s.setDrive d x).drive k = s.drive k :=
  vector_get_set_ne s.drives h x

theorem State.setDrive_drive (d k : DriveId) (x : DrivePort) : (s.setDrive d x).drive k = if k = d then x else s.drive k :=
  vector_get_set s.drives d k x

@[simp] theorem State.modDrive_drive_self (d : DriveId) (f : DrivePort → DrivePort) : (s.modDrive d f).drive d = f (s.drive d) :=
  vector_get_set_self s.drives d _

theorem State.modDrive_drive_ne {d k : DriveId} (h : k ≠ d) (f : DrivePort → DrivePort) : (s.modDrive d f).drive k = s.drive k :=
  vector_get_set_ne s.drives h _

theorem State.modDrive_drive (d k : DriveId) (f : DrivePort → DrivePort) :
    (s.modDrive d f).drive k = if k = d then f (s.drive d) else s.drive k :=
  vector_get_set s.drives d k _

@[simp] theorem State.setSlot_slot_self (i : SlotId) (x : Slot) : (s.setSlot i x).slot i = x :=
  vector_get_set_self s.slots i x

theorem State.setSlot_slot_ne {i k : SlotId} (h : k ≠ i) (x : Slot) : (s.setSlot i x).slot k = s.slot k :=
  vector_get_set_ne s.slots h x

theorem State.setSlot_slot (i k : SlotId) (x : Slot) : (s.setSlot i x).slot k = if k = i then x else s.slot k :=
  vector_get_set s.slots i k x

@[simp] theorem State.modSlot_slot_self (i : SlotId) (f : Slot → Slot) : (s.modSlot i f).slot i = f (s.slot i) :=
  vector_get_set_self s.slots i _

theorem State.modSlot_slot_ne {i k : SlotId} (h : k ≠ i) (f : Slot → Slot) : (s.modSlot i f).slot k = s.slot k :=
  vector_get_set_ne s.slots h _

theorem State.modSlot_slot (i k : SlotId) (f : Slot → Slot) :
    (s.modSlot i f).slot k = if k = i then f (s.slot i) else s.slot k :=
  vector_get_set s.slots i k _

/-! ### Clip records -/

theorem Table.modClip_ids (t : Table) (id : Nat) (f : Clip → Clip) (hf : ∀ c, (f c).id = c.id) :
    (t.modClip id f).clips.map Clip.id = t.clips.map Clip.id := by
  simp only [Table.modClip, List.map_map]
  apply List.map_congr_left
  intro c _
  simp only [Function.comp]
  split <;> simp [hf]

@[simp] theorem Table.modClip_results (t : Table) (id : Nat) (f : Clip → Clip) : (t.modClip id f).results = t.results := rfl

/-- A changed record is found changed, and every other record as it was. -/
theorem Table.modClip_clip? (t : Table) (id : Nat) (f : Clip → Clip) (hf : ∀ c, (f c).id = c.id) (k : Nat) :
    (t.modClip id f).clip? k = (t.clip? k).map (fun c => if c.id = id then f c else c) := by
  simp only [Table.modClip, Table.clip?]
  induction t.clips with
  | nil => rfl
  | cons c rest ih =>
    have hid : (if c.id = id then f c else c).id = c.id := by split <;> simp [hf]
    simp only [List.map_cons, List.find?_cons, hid]
    by_cases h : c.id = k
    · simp [h]
    · simp only [h, decide_false]; exact ih

theorem State.modClip_clip? (id : Nat) (f : Clip → Clip) (hf : ∀ c, (f c).id = c.id) (k : Nat) :
    (s.modClip id f).clip? k = (s.clip? k).map (fun c => if c.id = id then f c else c) :=
  s.table.modClip_clip? id f hf k

/-- The record found under an id has that id. -/
theorem Table.clip?_id {t : Table} {k : Nat} {c : Clip} (h : t.clip? k = some c) : c.id = k := by
  have := List.find?_some h
  simpa using this

theorem State.clip?_id {k : Nat} {c : Clip} (h : s.clip? k = some c) : c.id = k := Table.clip?_id h

theorem State.clip?_mem {k : Nat} {c : Clip} (h : s.clip? k = some c) : c ∈ s.table.clips := List.mem_of_find?_eq_some h

theorem State.modClip_clip?_self {id : Nat} {c : Clip} (f : Clip → Clip) (hf : ∀ c, (f c).id = c.id)
    (h : s.clip? id = some c) : (s.modClip id f).clip? id = some (f c) := by
  rw [State.modClip_clip? s id f hf, h]
  simp [State.clip?_id s h]

theorem State.modClip_clip?_ne {id k : Nat} (f : Clip → Clip) (hf : ∀ c, (f c).id = c.id) (hk : k ≠ id) :
    (s.modClip id f).clip? k = s.clip? k := by
  rw [State.modClip_clip? s id f hf]
  cases h : s.clip? k with
  | none => rfl
  | some c => have := State.clip?_id s h; simp [this, hk]

end Sys2Proof.Machine
end

