-- ==== Sys2Proof/Laws/Reach.lean ====
section
/-! SUPPORT. Once for each shared operation of the Offload Table, everything it can do (TableReach): what it leaves unchanged
and what it may change. Frames and invariants cite these and unfold no operation. -/

namespace Sys2Proof.Machine

/-! ### The relations are reflexive and transitive -/

theorem LinkTalks.refl (l : Link) : LinkTalks l l := ⟨[], [], by simp, by simp⟩

theorem Link.raise_replies (l : Link) (n : Notice) (rs : List Reply) :
    Link.raise { l with replies := rs } n = { l.raise n with replies := rs } := by
  simp only [Link.raise]; split <;> rfl

theorem Link.foldl_raise_replies (ns : List Notice) (l : Link) (rs : List Reply) :
    ns.foldl Link.raise { l with replies := rs } = { ns.foldl Link.raise l with replies := rs } := by
  induction ns generalizing l with
  | nil => rfl
  | cons n ns ih => rw [List.foldl_cons, Link.raise_replies, ih, List.foldl_cons]

theorem Link.foldl_raise_get_replies (ns : List Notice) (l : Link) : (ns.foldl Link.raise l).replies = l.replies := by
  have := congrArg Link.replies (Link.foldl_raise_replies ns l l.replies)
  simpa using this

theorem LinkTalks.trans {a b c : Link} (h : LinkTalks a b) (k : LinkTalks b c) : LinkTalks a c := by
  obtain ⟨rs, ns, hr, rfl⟩ := h
  obtain ⟨rs', ns', hr', rfl⟩ := k
  refine ⟨rs ++ rs', ns ++ ns', ?_, ?_⟩
  · intro r hm
    rcases List.mem_append.mp hm with hm | hm
    · exact hr r hm
    · exact hr' r hm
  · rw [Link.foldl_raise_get_replies, List.foldl_append, ← Link.foldl_raise_replies]
    simp only [List.append_assoc]

theorem LinkTalks.raise (l : Link) (n : Notice) : LinkTalks l (l.raise n) := ⟨[], [n], by simp, by simp⟩

theorem LinkTalks.form (l : Link) (r : Reply) (h : r.linkRefusal = false) :
    LinkTalks l { l with replies := l.replies ++ [r] } := ⟨[r], [], by simpa using h, rfl⟩

theorem CardKept.refl (x : CardPort) : CardKept x x :=
  ⟨rfl, rfl, rfl, rfl, rfl, rfl, rfl, rfl, rfl, rfl, List.Sublist.refl _, List.Sublist.refl _, .inl rfl⟩

theorem CardKept.trans {x y z : CardPort} (h : CardKept x y) (k : CardKept y z) : CardKept x z where
  presence := k.presence.trans h.presence
  detect := k.detect.trans h.detect
  settleTimer := k.settleTimer.trans h.settleTimer
  generation := k.generation.trans h.generation
  capacity := k.capacity.trans h.capacity
  mediaId := k.mediaId.trans h.mediaId
  passList := k.passList.trans h.passList
  scratch := k.scratch.trans h.scratch
  op := k.op.trans h.op
  crel := k.crel.trans h.crel
  clipQueue := k.clipQueue.trans h.clipQueue
  repairs := k.repairs.trans h.repairs
  recheck := by
    rcases k.recheck with e | e
    · rw [e]; exact h.recheck
    · exact .inr e

theorem DriveKept.refl (x : DrivePort) : DriveKept x x :=
  ⟨rfl, rfl, rfl, rfl, rfl, rfl, rfl, rfl, rfl, rfl, rfl, rfl, rfl, rfl, rfl, rfl, List.Sublist.refl _, List.Sublist.refl _,
    List.Sublist.refl _⟩

theorem DriveKept.trans {x y z : DrivePort} (h : DriveKept x y) (k : DriveKept y z) : DriveKept x z where
  presence := k.presence.trans h.presence
  detect := k.detect.trans h.detect
  settleTimer := k.settleTimer.trans h.settleTimer
  generation := k.generation.trans h.generation
  capacity := k.capacity.trans h.capacity
  mediaId := k.mediaId.trans h.mediaId
  latch := k.latch.trans h.latch
  lowMark := k.lowMark.trans h.lowMark
  highMark := k.highMark.trans h.highMark
  writeRun := k.writeRun.trans h.writeRun
  verifyRun := k.verifyRun.trans h.verifyRun
  phase := k.phase.trans h.phase
  runCount := k.runCount.trans h.runCount
  passList := k.passList.trans h.passList
  op := k.op.trans h.op
  drel := k.drel.trans h.drel
  claims := k.claims.trans h.claims
  writeQueue := k.writeQueue.trans h.writeQueue
  backlog := k.backlog.trans h.backlog

theorem SlotKept.refl (x : Slot) : SlotKept x x := ⟨0, rfl⟩

theorem SlotKept.trans {x y z : Slot} (h : SlotKept x y) (k : SlotKept y z) : SlotKept x z := by
  obtain ⟨m, rfl⟩ := h
  obtain ⟨n, rfl⟩ := k
  exact ⟨n + m, (Function.iterate_add_apply _ n m x).symm⟩

theorem SlotKept.dropRef (x : Slot) : SlotKept x x.dropRef := ⟨1, rfl⟩

theorem ClipKept.refl (c : Clip) : ClipKept c c := ⟨rfl, rfl, rfl, rfl, rfl, rfl, rfl, rfl, rfl, rfl, rfl, rfl, rfl⟩

theorem ClipKept.trans {a b c : Clip} (h : ClipKept a b) (k : ClipKept b c) : ClipKept a c :=
  ⟨k.id.trans h.id, k.card.trans h.card, k.generation.trans h.generation, k.extents.trans h.extents,
   k.streamLength.trans h.streamLength, k.chunkCount.trans h.chunkCount, k.policy.trans h.policy, k.required.trans h.required,
   k.chunksRead.trans h.chunksRead, k.remainder.trans h.remainder, k.digest.trans h.digest,
   k.sourceUnstable.trans h.sourceUnstable, k.inFlight.trans h.inFlight⟩

theorem clipsKept_refl (cs : List Clip) : List.Forall₂ ClipKept cs cs := List.forall₂_same.mpr (fun c _ => ClipKept.refl c)

theorem clipsKept_trans {a b c : List Clip} (h : List.Forall₂ ClipKept a b) (k : List.Forall₂ ClipKept b c) :
    List.Forall₂ ClipKept a c := by
  induction h generalizing c with
  | nil => exact k
  | cons h₁ _ ih =>
    cases k with
    | cons k₁ k₂ => exact .cons (h₁.trans k₁) (ih k₂)

theorem clipsKept_ids {a b : List Clip} (h : List.Forall₂ ClipKept a b) : b.map Clip.id = a.map Clip.id := by
  induction h with
  | nil => rfl
  | cons h₁ _ ih => simp only [List.map_cons, h₁.id, ih]

theorem TableReach.refl (s : State) : TableReach s s where
  pending := rfl
  store := rfl
  arbiter := rfl
  summary := rfl
  freeValues := rfl
  link := .refl _
  clips := clipsKept_refl _
  results := List.prefix_rfl
  slots := fun _ => .refl _
  cards := fun _ => .refl _
  drives := fun _ => .refl _

theorem TableReach.trans {s t u : State} (h : TableReach s t) (k : TableReach t u) : TableReach s u where
  pending := k.pending.trans h.pending
  store := k.store.trans h.store
  arbiter := k.arbiter.trans h.arbiter
  summary := k.summary.trans h.summary
  freeValues := k.freeValues.trans h.freeValues
  link := h.link.trans k.link
  clips := clipsKept_trans h.clips k.clips
  results := h.results.trans k.results
  slots := fun i => (h.slots i).trans (k.slots i)
  cards := fun p => (h.cards p).trans (k.cards p)
  drives := fun d => (h.drives d).trans (k.drives d)

/-- A fold of operations of the table is one. -/
theorem TableReach.foldl {α : Type} (f : State → α → State) (hf : ∀ s a, TableReach s (f s a)) (l : List α) (s : State) :
    TableReach s (l.foldl f s) := by
  induction l generalizing s with
  | nil => exact .refl s
  | cons a l ih => exact (hf s a).trans (ih (f s a))

/-! ### Primitive updates -/

theorem reach_modClip (s : State) (id : Nat) (f : Clip → Clip) (hf : ∀ c, ClipKept c (f c)) :
    TableReach s (s.modClip id f) := by
  refine { TableReach.refl s with clips := ?_, results := ?_ }
  · show List.Forall₂ ClipKept s.table.clips (s.table.clips.map _)
    rw [List.forall₂_map_right_iff]
    refine List.forall₂_same.mpr (fun c _ => ?_)
    split
    · exact hf c
    · exact .refl c
  · exact List.prefix_rfl

theorem reach_modCard (s : State) (p : CardId) (f : CardPort → CardPort) (hf : ∀ x, CardKept x (f x)) :
    TableReach s (s.modCard p f) := by
  refine { TableReach.refl s with cards := fun q => ?_ }
  rw [State.modCard_card]
  split
  · rename_i h; subst h; exact hf _
  · exact .refl _

theorem reach_modDrive (s : State) (d : DriveId) (f : DrivePort → DrivePort) (hf : ∀ x, DriveKept x (f x)) :
    TableReach s (s.modDrive d f) := by
  refine { TableReach.refl s with drives := fun e => ?_ }
  rw [State.modDrive_drive]
  split
  · rename_i h; subst h; exact hf _
  · exact .refl _

theorem reach_modSlot (s : State) (i : SlotId) (f : Slot → Slot) (hf : ∀ x, SlotKept x (f x)) :
    TableReach s (s.modSlot i f) := by
  refine { TableReach.refl s with slots := fun j => ?_ }
  rw [State.modSlot_slot]
  split
  · rename_i h; subst h; exact hf _
  · exact .refl _

theorem reach_raise (s : State) (n : Notice) : TableReach s (s.raise n) :=
  { TableReach.refl s with link := LinkTalks.raise s.link n }

theorem reach_reply (s : State) (kind : RequestKind) (tag : Byte) (body : ReplyBody) :
    TableReach s (s.reply kind tag body) :=
  { TableReach.refl s with link := LinkTalks.form s.link _ rfl }

theorem reach_answerList (s : State) (st : Status) (rs : List PassRecord) : TableReach s (s.answerList st rs) :=
  TableReach.foldl _ (fun s _ => reach_reply s _ _ _) rs s

theorem reach_results (s : State) (id : Nat) : TableReach s (s.modTable (fun t => { t with results := t.results ++ [id] })) :=
  { TableReach.refl s with clips := clipsKept_refl _, results := List.prefix_append _ _ }

/-! ### Operations of the table -/

theorem reach_cutWriteQueue (s : State) (d : DriveId) (keep : WriteEntry → Bool) :
    TableReach s (s.cutWriteQueue d keep) := by
  refine (reach_modDrive s d _ (fun x => ?_)).trans (TableReach.foldl _ (fun s e => reach_modSlot s _ _ SlotKept.dropRef) _ _)
  exact { DriveKept.refl x with writeQueue := List.filter_sublist }

theorem reach_backlog (s : State) (d : DriveId) (keep : BacklogEntry → Bool) :
    TableReach s (s.modDrive d (fun x => { x with backlog := x.backlog.filter keep })) :=
  reach_modDrive s d _ (fun x => { DriveKept.refl x with backlog := List.filter_sublist })

theorem reach_repairs (s : State) (p : CardId) (keep : RepairEntry → Bool) :
    TableReach s (s.modCard p (fun x => { x with repairs := x.repairs.filter keep })) :=
  reach_modCard s p _ (fun x => { CardKept.refl x with repairs := List.filter_sublist })

theorem reach_promote (s : State) (p : CardId) : TableReach s (s.promote p) := by
  unfold State.promote
  split
  · split
    · exact reach_modClip s _ _ (fun c => { ClipKept.refl c with })
    · exact .refl s
  · exact .refl s

theorem reach_clearClipWork (s : State) (c : Clip) : TableReach s (s.clearClipWork c) :=
  (TableReach.foldl _ (fun s d => (reach_cutWriteQueue s d _).trans (reach_backlog _ d _)) allDrives s).trans
    (reach_repairs _ _ _)

theorem reach_stopRecheck (s : State) (c : Clip) : TableReach s (s.stopRecheck c) := by
  refine reach_modCard s _ _ (fun x => ?_)
  split
  · exact { CardKept.refl x with recheck := .inr rfl }
  · exact .refl x

theorem reach_enterClosing (s : State) (id : Nat) (o : PendingOutcome) (cause : Cause) :
    TableReach s (s.enterClosing id o cause) := by
  unfold State.enterClosing
  split
  · exact .refl s
  · rename_i c _
    split
    · have h := ((reach_modClip s id (fun c => { c with state := .closing, pendingOutcome := some o, cause := some cause })
        (fun c => { ClipKept.refl c with })).trans (reach_clearClipWork _ c)).trans (reach_stopRecheck _ c)
      dsimp only
      split
      · exact h.trans (reach_promote _ _)
      · exact h
    · exact .refl s

theorem reach_markLost (s : State) (id : Nat) (d : DriveId) (cause : LossCause) : TableReach s (s.markLost id d cause) := by
  unfold State.markLost
  split
  · exact .refl s
  · rename_i c _
    split
    · refine ((reach_modClip s id _ (fun c => ?_)).trans ((reach_cutWriteQueue _ d _).trans (reach_backlog _ d _))).trans
        (reach_repairs _ _ _)
      exact { ClipKept.refl c with }
    · exact .refl s

theorem reach_requireCopies (s : State) (id : Nat) : TableReach s (s.requireCopies id) := by
  unfold State.requireCopies
  split
  · exact .refl s
  · split
    · exact reach_enterClosing _ _ _ _
    · exact .refl s

theorem reach_loseDest (s : State) (id : Nat) (d : DriveId) (cause : LossCause) : TableReach s (s.loseDest id d cause) := by
  unfold State.loseDest
  split
  · exact .refl s
  · split
    · exact (reach_markLost s id d cause).trans (reach_requireCopies _ id)
    · exact .refl s

theorem reach_leaveClipQueue (s : State) (c : Clip) : TableReach s (s.leaveClipQueue c) := by
  have h : TableReach s (s.modCard c.card (fun x =>
      { x with clipQueue := (s.card c.card).clipQueue.filter (fun id => id ≠ c.id) })) := by
    refine { TableReach.refl s with cards := fun q => ?_ }
    rw [State.modCard_card]
    split
    · rename_i e; subst e
      exact { CardKept.refl _ with clipQueue := List.filter_sublist }
    · exact .refl _
  unfold State.leaveClipQueue
  dsimp only
  split
  · exact h.trans (reach_raise _ _)
  · exact h

/-- Updates of a clip's record that the table makes, each a case of `reach_modClip`. -/
theorem reach_setOutcome (s : State) (id : Nat) (st : ClipState) :
    TableReach s (s.modClip id (fun c => { c with state := st, pendingOutcome := none })) :=
  reach_modClip s id _ (fun c => { ClipKept.refl c with })

theorem reach_setRecheck (s : State) (id : Nat) (f : Clip → Option RecheckState) :
    TableReach s (s.modClip id (fun c => { c with recheck := f c })) :=
  reach_modClip s id (fun c => { c with recheck := f c }) (fun c => { ClipKept.refl c with })

theorem reach_setRecheckState (s : State) (id : Nat) (r : RecheckState) (st : ClipState) :
    TableReach s (s.modClip id (fun c => { c with recheck := some r, state := st })) :=
  reach_modClip s id (fun c => { c with recheck := some r, state := st }) (fun c => { ClipKept.refl c with })

theorem reach_clearRecheck (s : State) (p : CardId) : TableReach s (s.modCard p (fun x => { x with recheck := none })) :=
  reach_modCard s p (fun x => { x with recheck := none }) (fun x => { CardKept.refl x with recheck := .inr rfl })

theorem reach_clearClaims (s : State) (d : DriveId) (k : Nat) :
    TableReach s (s.modDrive d (fun x => { x with claims := x.claims.filter (fun c => c.clip ≠ k) })) :=
  reach_modDrive s d _ (fun x => { DriveKept.refl x with claims := List.filter_sublist })

theorem reach_claims (s : State) (k : Nat) :
    TableReach s (allDrives.foldl (fun s d => s.modDrive d (fun x => { x with claims := x.claims.filter (fun c => c.clip ≠ k) })) s) :=
  TableReach.foldl (fun s d => s.modDrive d (fun x => { x with claims := x.claims.filter (fun c => c.clip ≠ k) }))
    (fun s d => reach_clearClaims s d k) allDrives s

theorem reach_terminalEntry (s : State) (c : Clip) : TableReach s (s.terminalEntry c) := by
  unfold State.terminalEntry
  refine TableReach.trans ?_ (reach_promote _ c.card)
  refine TableReach.trans ?_ (reach_raise _ _)
  refine TableReach.trans ?_ (reach_results _ c.id)
  refine TableReach.trans ?_ (reach_setRecheck _ c.id _)
  refine TableReach.trans ?_ (reach_leaveClipQueue _ c)
  refine TableReach.trans ?_ (reach_setOutcome _ c.id _)
  exact reach_claims s c.id

theorem reach_endTest (s : State) (id : Nat) : TableReach s (s.endTest id) := by
  unfold State.endTest
  split
  · exact .refl s
  · split
    · exact reach_terminalEntry s _
    · exact .refl s

theorem reach_endTestAll (s : State) : TableReach s s.endTestAll := TableReach.foldl _ reach_endTest _ s

theorem reach_endTestOf (s : State) (o : Option Nat) : TableReach s (s.endTestOf o) := by
  cases o with
  | none => exact .refl s
  | some id => exact reach_endTest s id

theorem reach_applyRecheck (s : State) (id : Nat) (r : RecheckState) : TableReach s (s.applyRecheck id r) := by
  unfold State.applyRecheck
  split
  · exact .refl s
  · split
    · cases r with
      | mismatch => exact (reach_setRecheck s id (fun _ => some .mismatch)).trans (reach_enterClosing _ _ _ _)
      | pending => exact (reach_setRecheckState s id .pending .draining).trans (reach_promote _ _)
      | passed => exact (reach_setRecheckState s id .passed .draining).trans (reach_promote _ _)
      | notDone => exact (reach_setRecheckState s id .notDone .draining).trans (reach_promote _ _)
    · exact .refl s

theorem reach_cardLossOf (s : State) (id : Nat) : TableReach s (s.cardLossOf id) := by
  unfold State.cardLossOf
  split
  · exact .refl s
  · split
    · exact reach_enterClosing _ _ _ _
    · exact reach_enterClosing _ _ _ _
    · exact reach_setRecheckState s id _ _
    all_goals exact .refl s

theorem reach_reportCardLoss (s : State) (p : CardId) (owed : List RepairEntry) :
    TableReach s (s.reportCardLoss p owed) := by
  unfold State.reportCardLoss
  refine TableReach.trans ?_ (reach_endTestAll _)
  refine TableReach.trans ?_ (TableReach.foldl _ (fun s e => reach_requireCopies s e.clip) owed _)
  refine TableReach.trans ?_ (TableReach.foldl _ reach_cardLossOf _ _)
  exact reach_clearRecheck s p

theorem reach_reportDriveLoss (s : State) (d : DriveId) (cause : LossCause) : TableReach s (s.reportDriveLoss d cause) :=
  (TableReach.foldl _ (fun s id => reach_loseDest s id d cause) _ s).trans (reach_endTestAll _)

theorem reach_closeAll (s : State) : TableReach s s.closeAll :=
  (TableReach.foldl _ (fun s id => reach_enterClosing s id _ _) _ s).trans (reach_endTestAll _)

end Sys2Proof.Machine
end

