-- ==== Sys2Proof/Laws/Event.lean ====
section
/-! SUPPORT. What closes an event: the runs of drive ports left without work, the end of RESETTING when every port is quiet, and
the notice taken of queue lengths and of the free count. An event changes nothing beyond its effect except, there, phases and run
counts, latches, watermarks and the engine's return. -/

namespace Sys2Proof.Machine

/-! ### Leaving RESETTING -/

theorem State.leaveIfQuiet_running {s : State} (h : s.isResetting = false) : s.leaveIfQuiet = s := by
  unfold State.leaveIfQuiet; rw [if_neg (by simp [h])]

theorem State.leaveIfQuiet_busy {s : State} (h : s.quiet = false) : s.leaveIfQuiet = s := by
  unfold State.leaveIfQuiet; rw [if_neg (by simp [h])]

theorem State.leaveIfQuiet_leaves {s : State} (h : s.isResetting = true) (hq : s.quiet = true) :
    s.leaveIfQuiet = s.leaveResetting := by
  unfold State.leaveIfQuiet; rw [if_pos (by simp [h, hq])]

/-! ### Notice taken of changes -/

section
variable (old s : State) (d : DriveId)

theorem State.observeQueue_same (h : (s.drive d).writeQueue.length = (old.drive d).writeQueue.length) :
    State.observeQueue old s d = s := by
  unfold State.observeQueue; rw [if_pos h]

@[simp] theorem State.observeQueue_pending : (State.observeQueue old s d).pending = s.pending := by
  unfold State.observeQueue; dsimp only; split <;> rfl
@[simp] theorem State.observeQueue_link : (State.observeQueue old s d).link = s.link := by
  unfold State.observeQueue; dsimp only; split <;> rfl
@[simp] theorem State.observeQueue_table : (State.observeQueue old s d).table = s.table := by
  unfold State.observeQueue; dsimp only; split <;> rfl
@[simp] theorem State.observeQueue_store : (State.observeQueue old s d).store = s.store := by
  unfold State.observeQueue; dsimp only; split <;> rfl
@[simp] theorem State.observeQueue_slots : (State.observeQueue old s d).slots = s.slots := by
  unfold State.observeQueue; dsimp only; split <;> rfl
@[simp] theorem State.observeQueue_arbiter : (State.observeQueue old s d).arbiter = s.arbiter := by
  unfold State.observeQueue; dsimp only; split <;> rfl
@[simp] theorem State.observeQueue_cards : (State.observeQueue old s d).cards = s.cards := by
  unfold State.observeQueue; dsimp only; split <;> rfl
@[simp] theorem State.observeQueue_freeValues : (State.observeQueue old s d).freeValues = s.freeValues := by
  unfold State.observeQueue; dsimp only; split <;> rfl

/-- The port's latch is evaluated when the length has changed, and nothing else of any drive port changes. -/
theorem State.observeQueue_drive (e : DriveId) :
    (State.observeQueue old s d).drive e =
      if e = d ∧ (s.drive d).writeQueue.length ≠ (old.drive d).writeQueue.length then
        { s.drive d with latch := latchAfter (s.drive d).latch (s.drive d).lowMark (s.drive d).highMark
                                    (s.drive d).writeQueue.length }
      else s.drive e := by
  unfold State.observeQueue
  dsimp only
  by_cases h : (s.drive d).writeQueue.length = (old.drive d).writeQueue.length
  · simp [h]
  · rw [if_neg h]
    by_cases he : e = d
    · subst he
      rw [if_pos ⟨rfl, h⟩]
      rw [State.modSummary_drive, State.modDrive_drive_self]
    · rw [if_neg (fun k => he k.1)]
      rw [State.modSummary_drive, State.modDrive_drive_ne _ he]

theorem State.observeFree_same (h : s.freeCount = old.freeCount) : State.observeFree old s = s := by
  unfold State.observeFree; rw [if_pos h]

end

/-! ### Runs of drive ports left without work -/

@[simp] theorem DrivePort.endRun_writeQueue (x : DrivePort) : x.endRun.writeQueue = x.writeQueue := by
  unfold DrivePort.endRun; split <;> rfl

/-- The two ways of saying that a port waits without work agree. -/
theorem DrivePort.idles_iff (x : DrivePort) : x.idles = true ↔ x.Waits := by
  unfold DrivePort.idles DrivePort.hasWork
  unfold DrivePort.Waits
  generalize x.backlog = b
  generalize x.writeQueue = w
  cases b <;> cases w <;> simp [and_assoc]

theorem DrivePort.idled_of_waits {x : DrivePort} (h : x.Waits) : x.idled = x.endRun := by
  unfold DrivePort.idled
  rw [if_pos ⟨h.2.2.1, h.2.2.2.1, h.2.2.2.2⟩]
  unfold DrivePort.endRun DrivePort.runLength
  cases x.phase <;> rfl

theorem DrivePort.settleRuns_eq (x y : DrivePort) : x.settleRuns y = if y.Waits ∧ ¬ x.Waits then y.idled else y := by
  unfold DrivePort.settleRuns
  by_cases hy : y.Waits
  · by_cases hx : x.Waits
    · rw [if_neg (by simp [(x.idles_iff).mpr hx]), if_neg (fun h => h.2 hx)]
    · have : x.idles = false := by rw [← Bool.not_eq_true, x.idles_iff]; exact hx
      rw [if_pos (by simp [this, (y.idles_iff).mpr hy]), if_pos ⟨hy, hx⟩, y.idled_of_waits hy]
  · have : y.idles = false := by rw [← Bool.not_eq_true, y.idles_iff]; exact hy
    rw [if_neg (by simp [this]), if_neg (fun h => hy h.1)]

/-- A drive port that an event does not bring to wait keeps its phase and run count. -/
theorem DrivePort.settleRuns_same {x y : DrivePort} (h : y.Waits → x.Waits) : x.settleRuns y = y := by
  rw [DrivePort.settleRuns_eq, if_neg (fun k => k.2 (h k.1))]

@[simp] theorem DrivePort.settleRuns_writeQueue (x y : DrivePort) : (x.settleRuns y).writeQueue = y.writeQueue := by
  unfold DrivePort.settleRuns; split <;> simp

section
variable (old s : State)

@[simp] theorem State.settleRuns_pending : (State.settleRuns old s).pending = s.pending := rfl
@[simp] theorem State.settleRuns_link : (State.settleRuns old s).link = s.link := rfl
@[simp] theorem State.settleRuns_table : (State.settleRuns old s).table = s.table := rfl
@[simp] theorem State.settleRuns_store : (State.settleRuns old s).store = s.store := rfl
@[simp] theorem State.settleRuns_slots : (State.settleRuns old s).slots = s.slots := rfl
@[simp] theorem State.settleRuns_arbiter : (State.settleRuns old s).arbiter = s.arbiter := rfl
@[simp] theorem State.settleRuns_cards : (State.settleRuns old s).cards = s.cards := rfl
@[simp] theorem State.settleRuns_summary : (State.settleRuns old s).summary = s.summary := rfl
@[simp] theorem State.settleRuns_freeValues : (State.settleRuns old s).freeValues = s.freeValues := rfl
@[simp] theorem State.settleRuns_card (p : CardId) : (State.settleRuns old s).card p = s.card p := rfl
@[simp] theorem State.settleRuns_slot (i : SlotId) : (State.settleRuns old s).slot i = s.slot i := rfl
@[simp] theorem State.settleRuns_clip? (k : Nat) : (State.settleRuns old s).clip? k = s.clip? k := rfl
@[simp] theorem State.settleRuns_freeCount : (State.settleRuns old s).freeCount = s.freeCount := rfl
@[simp] theorem State.settleRuns_isResetting : (State.settleRuns old s).isResetting = s.isResetting := rfl

/-- Each drive port after the runs have been settled. -/
@[simp] theorem State.settleRuns_drive (e : DriveId) :
    (State.settleRuns old s).drive e = (old.drive e).settleRuns (s.drive e) := by
  simp only [State.settleRuns, allDrives, List.foldl_cons, List.foldl_nil, State.modDrive_drive]
  obtain h | h | h | h : e = 0 ∨ e = 1 ∨ e = 2 ∨ e = 3 := by revert e; decide
  all_goals subst h; simp only [Fin.reduceEq, if_true, if_false]

/-- An event that brings no drive port to wait settles no run. -/
theorem State.settleRuns_same (h : ∀ d, (s.drive d).Waits → (old.drive d).Waits) : State.settleRuns old s = s := by
  have one : ∀ d, s.modDrive d (fun x => (old.drive d).settleRuns x) = s := by
    intro d
    unfold State.modDrive
    dsimp only
    rw [DrivePort.settleRuns_same (h d)]
    unfold State.setDrive State.drive
    have : s.drives.set d.val (s.drives.get d) d.isLt = s.drives := Vector.set_getElem_self d.isLt
    rw [this]
  simp only [State.settleRuns, allDrives, List.foldl_cons, List.foldl_nil, one]

end

@[simp] theorem DrivePort.noticed_writeQueue (x y : DrivePort) : (DrivePort.noticed x y).writeQueue = y.writeQueue := by
  unfold DrivePort.noticed; split <;> rfl

theorem DrivePort.noticed_same {x y : DrivePort} (h : y.writeQueue.length = x.writeQueue.length) :
    DrivePort.noticed x y = y := by
  unfold DrivePort.noticed; rw [if_pos h]

/-- An event that does not bring a drive port to wait leaves it its latch to notice alone. -/
theorem DrivePort.afterEvent_noticed {x y : DrivePort} (w : y.Waits → x.Waits) : x.afterEvent y = x.noticed y := by
  unfold DrivePort.afterEvent; rw [if_neg (fun k => k.2 (w k.1))]

section
variable (old s : State)

/-- The latch alone: what the notice of a queue's length changes at its port. -/
theorem State.observeQueue_drive_latch (d e : DriveId) :
    (State.observeQueue old s d).drive e =
      if e = d then
        if (s.drive e).writeQueue.length = (old.drive e).writeQueue.length then s.drive e
        else { s.drive e with latch := latchAfter (s.drive e).latch (s.drive e).lowMark (s.drive e).highMark
                                         (s.drive e).writeQueue.length }
      else s.drive e := by
  rw [State.observeQueue_drive]
  by_cases he : e = d
  · subst he
    by_cases h : (s.drive e).writeQueue.length = (old.drive e).writeQueue.length <;> simp [h]
  · simp [he]

theorem State.foldl_observeQueue_same (ds : List DriveId)
    (h : ∀ d, (s.drive d).writeQueue.length = (old.drive d).writeQueue.length) :
    ds.foldl (State.observeQueue old) s = s := by
  induction ds with
  | nil => rfl
  | cons d ds ih => rw [List.foldl_cons, State.observeQueue_same old s d (h d), ih]

/-- An event that changes no queue's length and not the free count is noticed nowhere. -/
theorem State.observe_same (h : ∀ d, (s.drive d).writeQueue.length = (old.drive d).writeQueue.length)
    (hf : s.freeCount = old.freeCount) : State.observe old s = s := by
  unfold State.observe
  rw [State.foldl_observeQueue_same old s allDrives h, State.observeFree_same old s hf]

theorem State.observeFree_eq :
    State.observeFree old s = s.modSummary (fun m =>
      { m with lowestFree := if s.freeCount = old.freeCount then m.lowestFree else min m.lowestFree s.freeCount }) := by
  unfold State.observeFree
  split <;> rfl

@[simp] theorem State.observe_pending : (State.observe old s).pending = s.pending := by
  simp [State.observe, State.observeFree_eq, allDrives]
@[simp] theorem State.observe_link : (State.observe old s).link = s.link := by
  simp [State.observe, State.observeFree_eq, allDrives]
@[simp] theorem State.observe_table : (State.observe old s).table = s.table := by
  simp [State.observe, State.observeFree_eq, allDrives]
@[simp] theorem State.observe_store : (State.observe old s).store = s.store := by
  simp [State.observe, State.observeFree_eq, allDrives]
@[simp] theorem State.observe_slots : (State.observe old s).slots = s.slots := by
  simp [State.observe, State.observeFree_eq, allDrives]
@[simp] theorem State.observe_arbiter : (State.observe old s).arbiter = s.arbiter := by
  simp [State.observe, State.observeFree_eq, allDrives]
@[simp] theorem State.observe_cards : (State.observe old s).cards = s.cards := by
  simp [State.observe, State.observeFree_eq, allDrives]
@[simp] theorem State.observe_freeValues : (State.observe old s).freeValues = s.freeValues := by
  simp [State.observe, State.observeFree_eq, allDrives]
@[simp] theorem State.observe_card (p : CardId) : (State.observe old s).card p = s.card p := by
  simp only [State.card, State.observe_cards]
@[simp] theorem State.observe_slot (i : SlotId) : (State.observe old s).slot i = s.slot i := by
  simp only [State.slot, State.observe_slots]
@[simp] theorem State.observe_clip? (k : Nat) : (State.observe old s).clip? k = s.clip? k := by
  simp only [State.clip?, State.observe_table]

/-- Each drive port after an event's queue lengths have been noticed. -/
theorem State.observe_drive (e : DriveId) :
    (State.observe old s).drive e =
      if (s.drive e).writeQueue.length = (old.drive e).writeQueue.length then s.drive e
      else { s.drive e with latch := latchAfter (s.drive e).latch (s.drive e).lowMark (s.drive e).highMark
                                       (s.drive e).writeQueue.length } := by
  rw [State.observe, State.observeFree_eq, State.modSummary_drive]
  simp only [allDrives, List.foldl_cons, List.foldl_nil, State.observeQueue_drive_latch]
  obtain h | h | h | h : e = 0 ∨ e = 1 ∨ e = 2 ∨ e = 3 := by revert e; decide
  all_goals subst h; simp only [Fin.reduceEq, if_true, if_false]

/-- Each drive port after an event. -/
theorem State.observe_settleRuns_drive (e : DriveId) :
    (State.observe old (State.settleRuns old s)).drive e = DrivePort.afterEvent (old.drive e) (s.drive e) := by
  rw [State.observe_drive, State.settleRuns_drive, DrivePort.settleRuns_eq]
  rfl

end

/-- In a RUNNING engine an event is its effect, the settling of runs and the notice taken of it. -/
theorem State.event_running {s : State} {effect : State → State} (h : (effect s).isResetting = false) :
    s.event effect = State.observe s (State.settleRuns s (effect s)) := by
  unfold State.event; rw [State.leaveIfQuiet_running (by simpa using h)]

/-- In a RUNNING engine an event that changes no queue's length, brings no drive port to wait and leaves the free count is its
effect. -/
theorem State.event_plain {s : State} {effect : State → State} (h : (effect s).isResetting = false)
    (hq : ∀ d, ((effect s).drive d).writeQueue.length = (s.drive d).writeQueue.length)
    (hw : ∀ d, ((effect s).drive d).Waits → (s.drive d).Waits)
    (hf : (effect s).freeCount = s.freeCount) : s.event effect = effect s := by
  rw [State.event_running h, State.settleRuns_same s _ hw, State.observe_same s _ hq hf]

/-- What the Offload Table does leaves the engine state. -/
theorem LinkTalks.engine {a b : Link} (h : LinkTalks a b) : b.engine = a.engine := by
  obtain ⟨rs, ns, _, rfl⟩ := h
  have : ∀ (ns : List Notice) (l : Link), (ns.foldl Link.raise l).engine = l.engine := by
    intro ns
    induction ns with
    | nil => intro l; rfl
    | cons n ns ih =>
      intro l
      rw [List.foldl_cons, ih]
      unfold Link.raise
      split <;> rfl
  exact this ns _

theorem TableReach.isResetting {s t : State} (h : TableReach s t) : t.isResetting = s.isResetting := by
  simp only [State.isResetting, h.link.engine]

end Sys2Proof.Machine
end

