-- ==== Sys2Proof/WellFormed.lean ====
section
/-! DEFINITION. Which operands a command can have at all: the sizes the line's frames and the media's sectors admit. -/

namespace Sys2Proof

/-- The body of a frame fits a length field of at most 32,800, which counts the kind and the tag too (08 R162, R177). -/
def bodyFits (body : List Byte) : Bool := body.length + 2 ≤ Config.maxLength

/-- The data of one read command is whole sectors, from 1 up to a chunk (02 R49, 04 R100, 05 R113). -/
def chunkDataFits (data : List Byte) : Bool :=
  data.length % Config.sectorBytes = 0 && Config.sectorBytes ≤ data.length
    && data.length ≤ Config.sectorBytes * Config.chunkSectors

/-- The data of one pass-through read is 1 to 64 whole sectors (07 R149). -/
def passDataFits (data : List Byte) : Bool :=
  data.length % Config.sectorBytes = 0 && Config.sectorBytes ≤ data.length
    && data.length ≤ Config.sectorBytes * Config.passThroughSectors

/-- An answer's data, where it has data, fits one read command. -/
def Answer.wf : Answer → Bool
  | .success => true
  | .data bytes => chunkDataFits bytes
  | .geometry _ _ => true
  | .mediaId _ => true

/-- The well-formedness of a command's operands. A clip id is a 2-byte field other than 0 (01 R1, 08 R177). -/
def Instr.wf : Instr → Bool
  | .powerOnReset _ _ _ => true
  | .hello _ body => bodyFits body
  | .status _ body => bodyFits body
  | .configure _ body => bodyFits body
  | .portSet _ body => bodyFits body
  | .admitClip _ body => bodyFits body
  | .cancelClip _ body => bodyFits body
  | .queryClip _ body => bodyFits body
  | .peekResult _ body => bodyFits body
  | .takeResult _ body => bodyFits body
  | .readChecks _ body => bodyFits body
  | .ejectCard _ body => bodyFits body
  | .releaseDrive _ body => bodyFits body
  | .restartPort _ body => bodyFits body
  | .cardRead _ body => bodyFits body
  | .driveRead _ body => bodyFits body
  | .driveWrite _ body => bodyFits body
  | .clearCounters _ body => bodyFits body
  | .engineReset _ body => bodyFits body
  | .engineLeavesResetting => true
  | .frameDiscard _ => true
  | .gapTimerExpiry => true
  | .transmitterTakesFrame => true
  | .endOfSending => true
  | .cardDetectChange _ _ => true
  | .cardSettleTimerExpiry _ => true
  | .cardRemoval _ => true
  | .cardCommandAnswer _ a => a.wf
  | .cardMediaError _ => true
  | .cardTimeout _ => true
  | .cardIdentification _ _ => true
  | .copyRead _ data => chunkDataFits data
  | .repairRead _ data => chunkDataFits data
  | .recheckRead _ data => chunkDataFits data
  | .cardReadCompletes _ data => passDataFits data
  | .grant => true
  | .recheckReadTakenUp _ => true
  | .passThroughTakenUp _ => true
  | .driveDetectChange _ _ => true
  | .driveSettleTimerExpiry _ => true
  | .driveRemoval _ => true
  | .driveCommandAnswer _ a => a.wf
  | .driveMediaError _ => true
  | .driveTimeout _ => true
  | .driveIdentification _ _ => true
  | .chunkWriteTakenUp _ => true
  | .verifyReadTakenUp _ => true
  | .chunkWrite _ => true
  | .verifyRead _ data => chunkDataFits data
  | .driveReadCompletes _ data => passDataFits data
  | .driveWriteCompletes _ => true
  | .intervalTimerExpiry => true
  | .terminalEntry clip => 1 ≤ clip && clip ≤ 65535
  | .byteReceived _ => true

end Sys2Proof
end

