-- ==== Sys2Proof/Laws/PerInstr.lean ====
section
/-! SUPPORT. One lemma for each command: a well-formed command carries at most a chunk of bytes, 2,048 sectors of 512 (06 R132),
and a request at most the 32,798 bytes of body that a frame holds (08 R162, R177). -/

namespace Sys2Proof.Laws.Shape

/-- The bytes of data that an answer brings. -/
def answerBytes : Answer → Nat
  | .data bytes => bytes.length
  | .success => 0
  | .geometry _ _ => 0
  | .mediaId _ => 0

/-- The bytes of data or body that a command carries. -/
def carried : Instr → Nat
  | .powerOnReset _ _ _ => 0
  | .hello _ body => body.length
  | .status _ body => body.length
  | .configure _ body => body.length
  | .portSet _ body => body.length
  | .admitClip _ body => body.length
  | .cancelClip _ body => body.length
  | .queryClip _ body => body.length
  | .peekResult _ body => body.length
  | .takeResult _ body => body.length
  | .readChecks _ body => body.length
  | .ejectCard _ body => body.length
  | .releaseDrive _ body => body.length
  | .restartPort _ body => body.length
  | .cardRead _ body => body.length
  | .driveRead _ body => body.length
  | .driveWrite _ body => body.length
  | .clearCounters _ body => body.length
  | .engineReset _ body => body.length
  | .engineLeavesResetting => 0
  | .frameDiscard _ => 0
  | .gapTimerExpiry => 0
  | .transmitterTakesFrame => 0
  | .endOfSending => 0
  | .cardDetectChange _ _ => 0
  | .cardSettleTimerExpiry _ => 0
  | .cardRemoval _ => 0
  | .cardCommandAnswer _ a => answerBytes a
  | .cardMediaError _ => 0
  | .cardTimeout _ => 0
  | .cardIdentification _ _ => 0
  | .copyRead _ data => data.length
  | .repairRead _ data => data.length
  | .recheckRead _ data => data.length
  | .cardReadCompletes _ data => data.length
  | .grant => 0
  | .recheckReadTakenUp _ => 0
  | .passThroughTakenUp _ => 0
  | .driveDetectChange _ _ => 0
  | .driveSettleTimerExpiry _ => 0
  | .driveRemoval _ => 0
  | .driveCommandAnswer _ a => answerBytes a
  | .driveMediaError _ => 0
  | .driveTimeout _ => 0
  | .driveIdentification _ _ => 0
  | .chunkWriteTakenUp _ => 0
  | .verifyReadTakenUp _ => 0
  | .chunkWrite _ => 0
  | .verifyRead _ data => data.length
  | .driveReadCompletes _ data => data.length
  | .driveWriteCompletes _ => 0
  | .intervalTimerExpiry => 0
  | .terminalEntry _ => 0
  | .byteReceived _ => 0

/-- The command is a request frame. -/
def isRequest : Instr → Bool
  | .powerOnReset _ _ _ => false
  | .hello _ _ => true
  | .status _ _ => true
  | .configure _ _ => true
  | .portSet _ _ => true
  | .admitClip _ _ => true
  | .cancelClip _ _ => true
  | .queryClip _ _ => true
  | .peekResult _ _ => true
  | .takeResult _ _ => true
  | .readChecks _ _ => true
  | .ejectCard _ _ => true
  | .releaseDrive _ _ => true
  | .restartPort _ _ => true
  | .cardRead _ _ => true
  | .driveRead _ _ => true
  | .driveWrite _ _ => true
  | .clearCounters _ _ => true
  | .engineReset _ _ => true
  | .engineLeavesResetting => false
  | .frameDiscard _ => false
  | .gapTimerExpiry => false
  | .transmitterTakesFrame => false
  | .endOfSending => false
  | .cardDetectChange _ _ => false
  | .cardSettleTimerExpiry _ => false
  | .cardRemoval _ => false
  | .cardCommandAnswer _ _ => false
  | .cardMediaError _ => false
  | .cardTimeout _ => false
  | .cardIdentification _ _ => false
  | .copyRead _ _ => false
  | .repairRead _ _ => false
  | .recheckRead _ _ => false
  | .cardReadCompletes _ _ => false
  | .grant => false
  | .recheckReadTakenUp _ => false
  | .passThroughTakenUp _ => false
  | .driveDetectChange _ _ => false
  | .driveSettleTimerExpiry _ => false
  | .driveRemoval _ => false
  | .driveCommandAnswer _ _ => false
  | .driveMediaError _ => false
  | .driveTimeout _ => false
  | .driveIdentification _ _ => false
  | .chunkWriteTakenUp _ => false
  | .verifyReadTakenUp _ => false
  | .chunkWrite _ => false
  | .verifyRead _ _ => false
  | .driveReadCompletes _ _ => false
  | .driveWriteCompletes _ => false
  | .intervalTimerExpiry => false
  | .terminalEntry _ => false
  | .byteReceived _ => false

/-- A well-formed command carries no more than its row can. -/
def Statement (i : Instr) : Prop :=
  i.wf = true → carried i ≤ Config.sectorBytes * Config.chunkSectors ∧ (isRequest i = true → carried i + 2 ≤ Config.maxLength)

theorem body_fits {n : List Byte} (h : bodyFits n = true) :
    n.length ≤ Config.sectorBytes * Config.chunkSectors ∧ (true = true → n.length + 2 ≤ Config.maxLength) := by
  simp only [bodyFits, decide_eq_true_eq, Config.maxLength] at h
  simp only [Config.sectorBytes, Config.chunkSectors, Config.maxLength]
  omega

theorem chunk_fits {n : List Byte} (h : chunkDataFits n = true) :
    n.length ≤ Config.sectorBytes * Config.chunkSectors ∧ (false = true → n.length + 2 ≤ Config.maxLength) := by
  simp only [chunkDataFits, Bool.and_eq_true, decide_eq_true_eq] at h
  exact ⟨h.2, fun k => by cases k⟩

theorem pass_fits {n : List Byte} (h : passDataFits n = true) :
    n.length ≤ Config.sectorBytes * Config.chunkSectors ∧ (false = true → n.length + 2 ≤ Config.maxLength) := by
  simp only [passDataFits, Bool.and_eq_true, decide_eq_true_eq, Config.sectorBytes, Config.passThroughSectors] at h
  refine ⟨?_, fun k => by cases k⟩
  simp only [Config.sectorBytes, Config.chunkSectors]
  omega

theorem nothing_fits : 0 ≤ Config.sectorBytes * Config.chunkSectors ∧ (false = true → 0 + 2 ≤ Config.maxLength) :=
  ⟨Nat.zero_le _, fun k => by cases k⟩

theorem answer_fits {a : Answer} (h : a.wf = true) :
    answerBytes a ≤ Config.sectorBytes * Config.chunkSectors ∧
      (false = true → answerBytes a + 2 ≤ Config.maxLength) := by
  cases a with
  | data bytes => exact chunk_fits h
  | success => exact nothing_fits
  | geometry _ _ => exact nothing_fits
  | mediaId _ => exact nothing_fits

theorem powerOnReset (straps : BitVec 2) (cards : BitVec 8) (drives : BitVec 4) : Statement (.powerOnReset straps cards drives) := fun _ => nothing_fits
theorem hello (tag : Byte) (body : List Byte) : Statement (.hello tag body) := fun h => body_fits h
theorem status (tag : Byte) (body : List Byte) : Statement (.status tag body) := fun h => body_fits h
theorem configure (tag : Byte) (body : List Byte) : Statement (.configure tag body) := fun h => body_fits h
theorem portSet (tag : Byte) (body : List Byte) : Statement (.portSet tag body) := fun h => body_fits h
theorem admitClip (tag : Byte) (body : List Byte) : Statement (.admitClip tag body) := fun h => body_fits h
theorem cancelClip (tag : Byte) (body : List Byte) : Statement (.cancelClip tag body) := fun h => body_fits h
theorem queryClip (tag : Byte) (body : List Byte) : Statement (.queryClip tag body) := fun h => body_fits h
theorem peekResult (tag : Byte) (body : List Byte) : Statement (.peekResult tag body) := fun h => body_fits h
theorem takeResult (tag : Byte) (body : List Byte) : Statement (.takeResult tag body) := fun h => body_fits h
theorem readChecks (tag : Byte) (body : List Byte) : Statement (.readChecks tag body) := fun h => body_fits h
theorem ejectCard (tag : Byte) (body : List Byte) : Statement (.ejectCard tag body) := fun h => body_fits h
theorem releaseDrive (tag : Byte) (body : List Byte) : Statement (.releaseDrive tag body) := fun h => body_fits h
theorem restartPort (tag : Byte) (body : List Byte) : Statement (.restartPort tag body) := fun h => body_fits h
theorem cardRead (tag : Byte) (body : List Byte) : Statement (.cardRead tag body) := fun h => body_fits h
theorem driveRead (tag : Byte) (body : List Byte) : Statement (.driveRead tag body) := fun h => body_fits h
theorem driveWrite (tag : Byte) (body : List Byte) : Statement (.driveWrite tag body) := fun h => body_fits h
theorem clearCounters (tag : Byte) (body : List Byte) : Statement (.clearCounters tag body) := fun h => body_fits h
theorem engineReset (tag : Byte) (body : List Byte) : Statement (.engineReset tag body) := fun h => body_fits h
theorem engineLeavesResetting : Statement .engineLeavesResetting := fun _ => nothing_fits
theorem frameDiscard (b : LineByte) : Statement (.frameDiscard b) := fun _ => nothing_fits
theorem gapTimerExpiry : Statement .gapTimerExpiry := fun _ => nothing_fits
theorem transmitterTakesFrame : Statement .transmitterTakesFrame := fun _ => nothing_fits
theorem endOfSending : Statement .endOfSending := fun _ => nothing_fits
theorem cardDetectChange (p : CardId) (present : Bool) : Statement (.cardDetectChange p present) := fun _ => nothing_fits
theorem cardSettleTimerExpiry (p : CardId) : Statement (.cardSettleTimerExpiry p) := fun _ => nothing_fits
theorem cardRemoval (p : CardId) : Statement (.cardRemoval p) := fun _ => nothing_fits
theorem cardCommandAnswer (p : CardId) (a : Answer) : Statement (.cardCommandAnswer p a) := fun h => answer_fits h
theorem cardMediaError (p : CardId) : Statement (.cardMediaError p) := fun _ => nothing_fits
theorem cardTimeout (p : CardId) : Statement (.cardTimeout p) := fun _ => nothing_fits
theorem cardIdentification (p : CardId) (id : MediaId) : Statement (.cardIdentification p id) := fun _ => nothing_fits
theorem copyRead (p : CardId) (data : List Byte) : Statement (.copyRead p data) := fun h => chunk_fits h
theorem repairRead (p : CardId) (data : List Byte) : Statement (.repairRead p data) := fun h => chunk_fits h
theorem recheckRead (p : CardId) (data : List Byte) : Statement (.recheckRead p data) := fun h => chunk_fits h
theorem cardReadCompletes (p : CardId) (data : List Byte) : Statement (.cardReadCompletes p data) := fun h => pass_fits h
theorem grant : Statement .grant := fun _ => nothing_fits
theorem recheckReadTakenUp (p : CardId) : Statement (.recheckReadTakenUp p) := fun _ => nothing_fits
theorem passThroughTakenUp (p : PortId) : Statement (.passThroughTakenUp p) := fun _ => nothing_fits
theorem driveDetectChange (d : DriveId) (present : Bool) : Statement (.driveDetectChange d present) := fun _ => nothing_fits
theorem driveSettleTimerExpiry (d : DriveId) : Statement (.driveSettleTimerExpiry d) := fun _ => nothing_fits
theorem driveRemoval (d : DriveId) : Statement (.driveRemoval d) := fun _ => nothing_fits
theorem driveCommandAnswer (d : DriveId) (a : Answer) : Statement (.driveCommandAnswer d a) := fun h => answer_fits h
theorem driveMediaError (d : DriveId) : Statement (.driveMediaError d) := fun _ => nothing_fits
theorem driveTimeout (d : DriveId) : Statement (.driveTimeout d) := fun _ => nothing_fits
theorem driveIdentification (d : DriveId) (id : MediaId) : Statement (.driveIdentification d id) := fun _ => nothing_fits
theorem chunkWriteTakenUp (d : DriveId) : Statement (.chunkWriteTakenUp d) := fun _ => nothing_fits
theorem verifyReadTakenUp (d : DriveId) : Statement (.verifyReadTakenUp d) := fun _ => nothing_fits
theorem chunkWrite (d : DriveId) : Statement (.chunkWrite d) := fun _ => nothing_fits
theorem verifyRead (d : DriveId) (data : List Byte) : Statement (.verifyRead d data) := fun h => chunk_fits h
theorem driveReadCompletes (d : DriveId) (data : List Byte) : Statement (.driveReadCompletes d data) := fun h => pass_fits h
theorem driveWriteCompletes (d : DriveId) : Statement (.driveWriteCompletes d) := fun _ => nothing_fits
theorem intervalTimerExpiry : Statement .intervalTimerExpiry := fun _ => nothing_fits
theorem terminalEntry (clip : Nat) : Statement (.terminalEntry clip) := fun _ => nothing_fits
theorem byteReceived (b : LineByte) : Statement (.byteReceived b) := fun _ => nothing_fits

end Sys2Proof.Laws.Shape
end

