-- ==== Sys2Proof/Laws/Request.lean ====
section
/-! SUPPORT. Everything `State.request` can do: a frame not completed, a link refusal, a drop, BAD_BODY, or its owner. -/

namespace Sys2Proof.Machine

variable {α : Type} {s : State} {kind : RequestKind} {tag : Byte} {body : List Byte} {decode : List Byte → Option α}
  {owner : α → State → State}

/-- The reply to an accepted request that changes nothing else. -/
theorem State.accepted_reply (s : State) (kind : RequestKind) (tag : Byte) (body : ReplyBody) :
    (s.accepted tag).reply kind tag body = s.answered kind tag body := rfl

/-- A frame that the receiver is not about to complete is not taken. -/
theorem State.request_ignored (h : s.link.receiver.completes (requestContent kind tag body) = false) :
    s.request kind tag body decode owner = s := by
  unfold State.request; rw [if_neg (by simp [h])]

/-- TAG_IN_USE and LINK_BUSY: the refusal joins the reply store and nothing else changes. -/
theorem State.request_refused (h : s.link.receiver.completes (requestContent kind tag body) = true) {st : Status}
    (hc : s.link.check tag = .refused st) :
    s.request kind tag body decode owner
      = (s.modLink Link.frameTaken).form { kind := kind, tag := tag, body := .refused st, linkRefusal := true } := by
  unfold State.request; rw [if_pos h]; simp only [hc]

/-- No room for a link refusal: the frame is discarded. -/
theorem State.request_noRoom (h : s.link.receiver.completes (requestContent kind tag body) = true)
    (hc : s.link.check tag = .noRoom) :
    s.request kind tag body decode owner = (s.modLink Link.frameTaken).tally framesCounter := by
  unfold State.request; rw [if_pos h]; simp only [hc]

/-- A body that cannot be decoded is answered BAD_BODY. -/
theorem State.request_badBody (h : Takes s kind tag body) (hd : decode body = none) :
    s.request kind tag body decode owner = s.answered kind tag (.refused .badBody) := by
  unfold State.request; rw [if_pos h.completes]; simp only [h.accepted, hd]; rfl

/-- A decoded request reaches its owner. -/
theorem State.request_taken (h : Takes s kind tag body) {a : α} (hd : decode body = some a) :
    s.request kind tag body decode owner = owner a (s.accepted tag) := by
  unfold State.request; rw [if_pos h.completes]; simp only [h.accepted, hd]

/-- The link check answers one of three ways, as the tags and the refusals waiting say. -/
theorem Link.check_accepted {l : Link} {tag : Byte} :
    l.check tag = .accepted ↔ l.outstanding.contains tag = false ∧ l.outstanding.length < Config.tagLimit := by
  unfold Link.check
  by_cases h : l.outstanding.contains tag
  · simp only [h, if_true]
    constructor
    · intro k; split at k <;> cases k
    · intro k; cases k.1
  · simp only [h, Bool.false_eq_true, if_false]
    by_cases hb : Config.tagLimit ≤ l.outstanding.length
    · simp only [hb, if_true]
      constructor
      · intro k; split at k <;> cases k
      · intro k; omega
    · simp only [hb, if_false]
      have hl : l.outstanding.length < Config.tagLimit := by omega
      exact ⟨fun _ => ⟨by simp, hl⟩, fun _ => trivial⟩

@[simp] theorem State.accepted_isResetting (s : State) (tag : Byte) : (s.accepted tag).isResetting = s.isResetting := rfl

@[simp] theorem State.answered_card (s : State) (k : RequestKind) (t : Byte) (b : ReplyBody) (p : CardId) :
    (s.answered k t b).card p = s.card p := rfl

@[simp] theorem State.answered_drive (s : State) (k : RequestKind) (t : Byte) (b : ReplyBody) (d : DriveId) :
    (s.answered k t b).drive d = s.drive d := rfl

@[simp] theorem State.answered_table (s : State) (k : RequestKind) (t : Byte) (b : ReplyBody) :
    (s.answered k t b).table = s.table := rfl

end Sys2Proof.Machine
end

