-- ==== Sys2Proof/Tests/Slice0.lean ====
section
/-! SUPPORT. The model's own tests: ill-formed commands are refused, the manual's test values and worked examples, and for every
statement with hypotheses a state and operands that meet them (a witness for each clause, at the ends of its range). -/

namespace Sys2Proof.Tests

open Sys2Proof Sys2Proof.Machine

/-! ### Well-formedness -/

theorem test_wf_body : (Instr.status 1 (List.replicate 32798 0)).wf = true ∧ (Instr.status 1 (List.replicate 32799 0)).wf = false := by
  simp only [Instr.wf, bodyFits, List.length_replicate]; decide

theorem test_wf_chunkData : (Instr.copyRead 0 (List.replicate 512 0)).wf = true ∧ (Instr.copyRead 0 []).wf = false ∧
    (Instr.repairRead 0 (List.replicate 511 0)).wf = false ∧ (Instr.verifyRead 0 (List.replicate 1049088 0)).wf = false := by
  simp only [Instr.wf, chunkDataFits, List.length_replicate]; decide

theorem test_wf_passData : (Instr.cardReadCompletes 0 (List.replicate 32768 0)).wf = true ∧
    (Instr.driveReadCompletes 0 (List.replicate 33280 0)).wf = false ∧ (Instr.driveReadCompletes 0 []).wf = false := by
  simp only [Instr.wf, passDataFits, List.length_replicate]; decide

theorem test_wf_answer : (Instr.cardCommandAnswer 0 .success).wf = true ∧ (Instr.driveCommandAnswer 0 (.data [1])).wf = false := by
  decide

theorem test_wf_clip : (Instr.terminalEntry 1).wf = true ∧ (Instr.terminalEntry 0).wf = false ∧
    (Instr.terminalEntry 65536).wf = false := by decide

theorem test_decodeTableWord : decodeTableWord 8 0 = none := rfl

/-! ### A small machine: clip 1 of 3,000 sectors on CP0 goes to DP0 and DP1 -/

def card (presence : CardPresence) : CardPort :=
  { CardPort.reset with presence := presence, detect := true, generation := 5, capacity := some 4000,
                        mediaId := some (Vector.replicate 16 7), clipQueue := [1] }

def drive (presence : DrivePresence) : DrivePort :=
  { DrivePort.reset with presence := presence, detect := true, generation := 9, capacity := some 9000,
                         mediaId := some (Vector.replicate 16 8), claims := [{ clip := 1, first := 100, count := 3000 }] }

def dest (d : DriveId) : Destination :=
  { drive := d, generation := 9, targets := [{ first := 100, count := 3000 }], state := .active, verified := false,
    lossCause := none, chunksWritten := 0, chunksVerified := 0, repairsUsed := 0 }

def clip (state : ClipState) : Clip :=
  { id := 1, card := 0, generation := 5, extents := [{ first := 0, count := 3000 }], streamLength := 3000, chunkCount := 2,
    policy := .readbackRecheck, required := 1, dests := [dest 0, dest 1], state := state, pendingOutcome := none, cause := none,
    chunksRead := 0, remainder := 0, digest := none, recheck := some .pending, sourceUnstable := false, inFlight := 1 }

/-- The machine around one record, a card port and a drive port. -/
def machine (c : Clip) (x : CardPort) (y : DrivePort) : State :=
  { State.reset with
    table := { clips := [c], results := [] },
    store := { rows := [{ clip := 1, entries := [some 3, none] }], reserved := 2 },
    cards := State.reset.cards.set 0 x,
    drives := State.reset.drives.set 0 y }

/-- The same with the ports READY and ONLINE. -/
def small (c : Clip) : State := machine c (card .ready) (drive .online)

def cardOp (task : CardTask) (retries : Nat) : CardOp :=
  { task := task, done := 0, retries := retries, filled := 0, check := 0xFFFFFFFF, remainder := 0 }

def driveOp (task : DriveTask) (retries : Nat) : DriveOp := { task := task, done := 0, retries := retries, check := 0xFFFFFFFF }

def withCardOp (c : Clip) (op : CardOp) : State := machine c { card .ready with op := some op } (drive .online)

def withDriveOp (c : Clip) (y : DrivePort) (op : DriveOp) : State := machine c (card .ready) { y with op := some op }

/-- The data of the clip's first chunk, and of its second. -/
def chunk0 : List Byte := List.replicate 1048576 0
def chunk1 : List Byte := List.replicate 487424 0

theorem chunk0_length : chunk0.length = 512 * 2048 := List.length_replicate
theorem chunk1_length : chunk1.length = 512 * 952 := List.length_replicate

def entry : WriteEntry := { slot := 4, clip := 1, chunk := 0 }

def passRecord (kind : PassKind) : PassRecord := { tag := 6, kind := kind, generation := 5, first := 0, count := 1, data := [] }

/-! ### Values and layouts of the manual -/

/-- The test values of R134, R136 and R162, over the nine ASCII digits 1 to 9. -/
theorem test_checks :
    let digits : List Byte := [0x31, 0x32, 0x33, 0x34, 0x35, 0x36, 0x37, 0x38, 0x39]
    chunkCheck digits = 0xE3069283 ∧ streamDigest digits = 0x62EC59E3F1A4F00A ∧ frameCheck digits = 0x29B1 := by decide +kernel

/-- The bands of the worked example of 9.2. -/
theorem test_bands : bandOf 4 = .few ∧ bandOf 7 = .some ∧ bandOf 2 = .few ∧ bandOf 1 = .one ∧ bandOf 0 = .zero ∧ bandOf 101 = .heavy := by
  decide

/-- The examples of R97: a clear latch at 51 and at 49 entries under a high mark of 40, a set one at 29 under a low mark of 36. -/
theorem test_latch : latchAfter false 24 40 51 = true ∧ latchAfter false 24 40 49 = true ∧ latchAfter true 36 64 29 = false ∧
    latchAfter true 24 64 25 = true := by decide

/-- The STATUS reply has the blocks of R177: 8 records of 33, 4 of 39, 17, 4, 8, 6, 116 and 4 bytes, after kind, tag, status and
engine state. -/
theorem test_status_length :
    ({ kind := .status, tag := 1, body := .status State.reset.report, linkRefusal := false } : Reply).content.length
      = 4 + 8 * 33 + 4 * 39 + 17 + 4 + 8 + 6 + 116 + 4 := by decide +kernel

/-- A HELLO frame, byte after byte from HUNT, is answered at its last byte. -/
theorem test_hello_frame :
    frameBytes [0x01, 0x07] = [0xA5, 0x3C, 0x02, 0x00, 0x01, 0x07, 0x7E, 0x2A] ∧
    (match exec (.hello 0x07 []) (State.reset.feed [0xA5, 0x3C, 0x02, 0x00, 0x01, 0x07, 0x7E]) with
     | .next t => t.link.replies
     | .fault _ => []
     | .refused _ => []) = [{ kind := .hello, tag := 7, body := .hello .mbit3, linkRefusal := false }] := by decide +kernel

/-! ### Steps -/

theorem test_detect_settle :
    step { State.reset with pending := [.cardDetectChange 2 true] }
      = .next (State.reset.setCard 2 { CardPort.reset with detect := true, presence := .settling, settleTimer := true }) := by rfl

theorem test_removal_idle :
    step { State.reset with pending := [.driveRemoval 1] } = .next State.reset := by rfl

/-! ### Witnesses: receiving and sending -/

def receiving (r : Receiver) : State := { State.reset with link := { Link.reset with receiver := r, gapTimer := true } }

/-- A link with n outstanding tags (10, 11, …) and m link refusals waiting. -/
def loaded (n m : Nat) (engine : EngineState) : State :=
  { State.reset with
    link := { Link.reset with
      outstanding := (List.range n).map (fun i => BitVec.ofNat 8 (10 + i)),
      replies := List.replicate m { kind := .hello, tag := 10, body := .refused .tagInUse, linkRefusal := true },
      engine := engine, resetTag := if engine = .resetting then some 10 else none } }

theorem takes_loaded (m : Nat) (engine : EngineState) (kind : RequestKind) (tag : Byte) (body : List Byte)
    (hl : body.length + 2 ≤ 32800) : Takes (loaded 0 m engine) kind tag body := by
  constructor
  · simp [loaded, Receiver.completes, Receiver.awaitsLast, Link.reset, requestContent, Config.maxLength]; omega
  · simp [loaded, Link.check]

theorem takes_reset (kind : RequestKind) (tag : Byte) (body : List Byte) (hl : body.length + 2 ≤ 32800) :
    Takes State.reset kind tag body := by
  constructor
  · simp [State.reset, Receiver.completes, Receiver.awaitsLast, Link.reset, requestContent, Config.maxLength]; omega
  · simp [State.reset, Link.reset, Link.check]

theorem takes_small (c : Clip) (x : CardPort) (y : DrivePort) (kind : RequestKind) (tag : Byte) (body : List Byte)
    (hl : body.length + 2 ≤ 32800) : Takes (machine c x y) kind tag body :=
  ⟨(takes_reset kind tag body hl).completes, (takes_reset kind tag body hl).accepted⟩

theorem witness_ByteReceivedAdvances :
    (receiving .hunt).link.receiver = .hunt ∧ (receiving .sync).link.receiver = .sync ∧
    (receiving (.length none)).link.receiver = .length none ∧
    (receiving (.length (some 2))).link.receiver = .length (some 2) ∧ (2 : Byte).toNat + 256 * (0 : Byte).toNat = 2 ∧
    (0x20 : Byte).toNat + 256 * (0x80 : Byte).toNat = 32800 ∧
    (receiving (.content 3 [1, 2])).link.receiver = .content 3 [1, 2] ∧
    (receiving (.check [1, 2] none)).link.receiver = .check [1, 2] none := by decide

theorem witness_FrameDiscarded :
    (1 : Byte).toNat + 256 * (0 : Byte).toNat = 1 ∧ (0x21 : Byte).toNat + 256 * (0x80 : Byte).toNat = 32801 ∧
    (receiving (.length none)).link.receiver ≠ .hunt ∧ (receiving (.length none)).link.receiver ≠ .sync ∧
    (0 : Byte).toNat + 256 * (0 : Byte).toNat ≠ (frameCheck (leBytes 2 2 ++ [1, 5])).toNat ∧
    (0x0D : Byte).toNat + 256 * (0x39 : Byte).toNat = (frameCheck (leBytes 2 2 ++ [0x00, 5])).toNat ∧
    0x12 < (0x13 : Byte).toNat ∧
    ((10 : Byte) ∈ (loaded 8 8 .running).link.outstanding ∧ 8 ≤ (loaded 8 8 .running).link.outstanding.length ∧
      8 ≤ (loaded 8 8 .running).link.refusalsWaiting) ∧
    State.reset.link.gapTimer = false ∧ (receiving .hunt).link.gapTimer = true ∧ (receiving .sync).link.gapTimer = true ∧
    (receiving (.content 4 [])).link.gapTimer = true := by decide +kernel

theorem witness_RequestFrameRoundTrip :
    State.reset.link.receiver = .hunt ∧ (List.replicate 32798 (0 : Byte)).length ≤ 32798 ∧
    Takes State.reset .driveWrite 1 (List.replicate 32798 0) :=
  ⟨rfl, by rw [List.length_replicate], takes_reset _ _ _ (by rw [List.length_replicate])⟩

theorem witness_RequestMeetsLinkCheck :
    (receiving .sync).link.receiver.completes (requestContent .hello 1 []) = false ∧
    (loaded 8 7 .running).link.receiver.completes (requestContent .hello 1 []) = true ∧
    (10 : Byte) ∈ (loaded 1 7 .running).link.outstanding ∧ (loaded 1 7 .running).link.refusalsWaiting < 8 ∧
    (1 : Byte) ∉ (loaded 8 7 .running).link.outstanding ∧ 8 ≤ (loaded 8 7 .running).link.outstanding.length ∧
    8 ≤ (loaded 1 8 .running).link.refusalsWaiting ∧
    (1 : Byte) ∉ (loaded 7 0 .running).link.outstanding ∧ (loaded 7 0 .running).link.outstanding.length < 8 ∧
    decodes .hello [1] = false ∧ (loaded 0 0 .resetting).link.engine = .resetting ∧ decodes .peekResult [] = true ∧
    Takes (loaded 0 0 .resetting) .peekResult 1 [] := by
  refine ⟨by decide, by decide, by decide, by decide, by decide, by decide, by decide, by decide, by decide, by decide, rfl,
    by decide, takes_loaded _ _ _ _ _ (by decide)⟩

theorem witness_RequestBodiesRoundTrip :
    (({ clip := 65535, card := 7, generation := 65535, policy := .readbackRecheck, required := 255,
        extents := [{ first := 2 ^ 64 - 1, count := 2 ^ 64 - 1 }],
        dests := [{ drive := 3, generation := 65535, targets := [{ first := 0, count := 1 }] }] } : AdmitRequest).fits) ∧
    (65535 < 2 ^ 16) ∧ (∀ x ∈ [(0xFF, 65535), (0, 0)], x.1 < 256 ∧ x.2 < 2 ^ 16) ∧
    ({ card := 7, priority := 255, hold := true } : PortSetRequest).priority < 256 ∧
    ({ clip := 65535, first := 2 ^ 32 - 1, count := 65535 } : ChecksRequest).first < 2 ^ 32 ∧
    (let q : PassRequest := { generation := 65535, first := 2 ^ 64 - 1, count := 255, data := [] }
     q.generation < 2 ^ 16 ∧ q.first < 2 ^ 64 ∧ q.count < 256 ∧ q.data = []) := by
  refine ⟨?_, by decide, by decide, by decide, by decide, by decide⟩
  simp [AdmitRequest.fits]

def sending : State := { State.reset with link := { Link.reset with transmitter := .sending [1] (some 4), outstanding := [4] } }

theorem witness_TransmitterSends :
    State.reset.link.transmitter = .idle ∧ (loaded 0 1 .running).link.replies ≠ [] ∧
    (State.reset.raise (.gap 1)).link.replies = [] ∧ (State.reset.raise (.gap 1)).link.notices = [.gap 1] ∧
    State.reset.link.replies = [] ∧ State.reset.link.notices = [] ∧
    sending.link.transmitter = .sending [1] (some 4) := by decide

def queued (n lost : Nat) : State :=
  { State.reset with link := { Link.reset with notices := List.replicate n (.gap 1), lost := lost } }

theorem witness_NoticeRaisedOrLost :
    (queued 63 0).link.notices.length < 64 ∧ 64 ≤ (queued 64 65534).link.notices.length ∧ (queued 64 65534).link.lost < 65535 ∧
    65535 ≤ (queued 64 65535).link.lost := by decide

/-! ### Witnesses: requests -/

theorem witness_HelloAnswered : Takes (loaded 0 8 .resetting) .hello 1 [] := takes_loaded _ _ _ _ _ (by decide)

theorem witness_StatusAnswered : Takes (loaded 0 8 .resetting) .status 255 [] := takes_loaded _ _ _ _ _ (by decide)

/-- A reserve mark of 128 and marks 92 and 96 of DP3; the fault of the second list is its second pair. -/
def goodPairs : List (Nat × Nat) := [(0x01, 128), (0x13, 92), (0x17, 96)]
def badPairs : List (Nat × Nat) := [(0x13, 92), (0x17, 95)]

theorem goodPairs_no_fault (i : Nat) : ¬ State.reset.AtFault goodPairs i := by
  have hs : settingOfCode 1 = some .reserveMark ∧ settingOfCode 0x13 = some (.lowMark 3) ∧ settingOfCode 0x17 = some (.highMark 3) ∧
      State.reset.valueAfter goodPairs (.lowMark 3) + 4 ≤ State.reset.valueAfter goodPairs (.highMark 3) := by decide
  rintro ⟨code, value, h, m⟩
  have hi : i < 3 := (List.getElem?_eq_some_iff.mp h).1
  have dup : ∀ i, i < 3 → ∀ j, j < i → (goodPairs[j]?).bind (fun p => settingOfCode p.1) ≠ (goodPairs[i]?).bind (fun p => settingOfCode p.1) := by decide
  have hm : ∀ st, settingOfCode code = some st → ¬ (∃ j, j < i ∧ ∃ p, goodPairs[j]? = some p ∧ settingOfCode p.1 = some st) := by
    rintro st e ⟨j, hj, p, hp, q⟩
    exact dup i hi j hj (by simp [hp, h, q, e])
  have hc : (code = 1 ∧ value = 128) ∨ (code = 0x13 ∧ value = 92) ∨ (code = 0x17 ∧ value = 96) := by
    interval_cases i <;> simp [goodPairs] at h <;> simp [← h.1, ← h.2]
  rcases hc with ⟨rfl, rfl⟩ | ⟨rfl, rfl⟩ | ⟨rfl, rfl⟩
  · simp only [hs.1] at m hm
    rcases m with m | m | ⟨d, m | m, _⟩
    · exact hm _ rfl m
    · exact absurd m (by decide)
    · cases m
    · cases m
  · simp only [hs.2.1] at m hm
    rcases m with m | m | ⟨d, m | m, n, _⟩
    · exact hm _ rfl m
    · exact absurd m (by decide)
    · cases m; exact n hs.2.2.2
    · cases m
  · simp only [hs.2.2.1] at m hm
    rcases m with m | m | ⟨d, m | m, n, _⟩
    · exact hm _ rfl m
    · exact absurd m (by decide)
    · cases m
    · cases m; exact n hs.2.2.2

theorem badPairs_fault : State.reset.AtFault badPairs 1 := by
  refine ⟨0x17, 95, rfl, Or.inr (Or.inr ⟨3, Or.inr (by decide), by decide, ?_⟩)⟩
  intro other h k v hl
  rcases h with rfl | rfl
  · have : listed badPairs (.lowMark 3) = some (0, 92) := by decide
    rw [this] at hl; cases hl; decide
  · have : listed badPairs (.highMark 3) = some (1, 95) := by decide
    rw [this] at hl; cases hl; decide

theorem badPairs_first (j : Nat) (hj : j < 1) : ¬ State.reset.AtFault badPairs j := by
  have hs : settingOfCode 0x13 = some (.lowMark 3) ∧ listed badPairs (.highMark 3) = some (1, 95) := by decide
  obtain rfl : j = 0 := by omega
  rintro ⟨code, value, h, m⟩
  obtain ⟨rfl, rfl⟩ : code = 0x13 ∧ value = 92 := by simp [badPairs] at h; omega
  simp only [hs.1] at m
  rcases m with ⟨k, hk, _⟩ | m | ⟨d, m | m, _, n⟩
  · omega
  · exact absurd m (by decide)
  · cases m; exact absurd (n _ (Or.inr rfl) _ _ hs.2) (by decide)
  · cases m

theorem witness_ConfigureAnswered :
    decodeConfigure [3, 0x01, 128, 0, 0x13, 92, 0, 0x17, 96, 0] = some goodPairs ∧
    (∀ i, ¬ State.reset.AtFault goodPairs i) ∧
    decodeConfigure [2, 0x13, 92, 0, 0x17, 95, 0] = some badPairs ∧ State.reset.AtFault badPairs 1 ∧
    (∀ j, j < 1 → ¬ State.reset.AtFault badPairs j) ∧ State.reset.link.engine = .running ∧
    Takes State.reset .configure 1 [2, 0x13, 92, 0, 0x17, 95, 0] := by
  exact ⟨by decide, goodPairs_no_fault, by decide, badPairs_fault, badPairs_first, rfl, takes_reset _ _ _ (by decide)⟩

theorem witness_ClearCountersClears :
    Takes State.reset .clearCounters 1 [] ∧ State.reset.link.engine = .running ∧
    Takes (loaded 0 0 .resetting) .clearCounters 1 [] ∧ (loaded 0 0 .resetting).link.engine = .resetting :=
  ⟨takes_reset _ _ _ (by decide), rfl, takes_loaded _ _ _ _ _ (by decide), rfl⟩

theorem witness_PortRequestsAnswered :
    Takes State.reset .portSet 1 [7, 7, 1] ∧ decodePortSet [7, 7, 1] = some { card := 7, priority := 7, hold := true } ∧
    decodePortSet [0, 8, 0] = some { card := 0, priority := 8, hold := false } ∧ State.reset.link.engine = .running ∧
    Takes (small (clip .reading)) .ejectCard 1 [0, 5, 0] ∧ decodeEject [0, 5, 0] = some (0, 5) ∧
    Takes (small (clip .reading)) .releaseDrive 1 [0x13, 9, 0] ∧ decodeRelease [0x13, 9, 0] = some (3, 9) ∧
    (small (clip .reading)).link.engine = .running :=
  ⟨takes_reset _ _ _ (by decide), by decide, by decide, rfl, takes_small _ _ _ _ _ _ (by decide), by decide,
    takes_small _ _ _ _ _ _ (by decide), by decide, rfl⟩

/-- Both ports SETTLING with a medium on the line. -/
def settling : State :=
  machine (clip .draining) { card .settling with settleTimer := true } { drive .settling with settleTimer := true }

theorem witness_IdentificationBegins :
    (settling.cardGenerations 0).length ≤ 256 ∧ (settling.card 0).presence = .settling ∧ (settling.card 0).settleTimer = true ∧
    (settling.card 0).detect = true ∧
    Takes (machine (clip .draining) (card .faulted) (drive .released)) .restartPort 1 [0x10] ∧
    decodeRestart [0] = some (.card 0) ∧ decodeRestart [0x10] = some (.drive 0) ∧ settling.link.engine = .running ∧
    (settling.driveGenerations 0).length ≤ 256 ∧ (settling.drive 0).presence = .settling ∧
    (settling.drive 0).settleTimer = true ∧ (settling.drive 0).detect = true := by
  refine ⟨by decide, by decide, by decide, by decide, takes_small _ _ _ _ _ _ (by decide), by decide, by decide, rfl, by decide,
    by decide, by decide, by decide⟩

/-- An admission of clip 2 from CP0 to DP0. -/
def admission (sectors : Nat) : AdmitRequest :=
  { clip := 2, card := 0, generation := 5, policy := .readback, required := 1,
    extents := if sectors = 0 then [] else [{ first := 0, count := sectors }],
    dests := [{ drive := 0, generation := 9, targets := if sectors = 0 then [] else [{ first := 4000, count := sectors }] }] }

theorem witness_AdmitFirstFailingCheck :
    Takes (small (clip .reading)) .admitClip 1 (admitBody (admission 4001)) ∧
    decodeAdmit (admitBody (admission 4001)) = some (admission 4001) ∧
    ((small (clip .reading)).admissionChecks (admission 4001)).findSome? id = some (.refused .sourceRange) :=
  ⟨takes_small _ _ _ _ _ _ (by decide), by decide +kernel, by decide +kernel⟩

theorem witness_AdmitClipAccepted :
    decodeAdmit (admitBody (admission 4000)) = some (admission 4000) ∧
    (∀ x ∈ (small (clip .reading)).admissionChecks (admission 4000), x = none) ∧ 0 < (admission 4000).length ∧
    (small (clip .reading)).portReads 0 = true ∧
    (∀ x ∈ (small (clip .draining)).admissionChecks (admission 1), x = none) ∧ (small (clip .draining)).oldestQueued 0 = none :=
  ⟨by decide +kernel, by decide +kernel, by decide, by decide, by decide +kernel, by decide⟩

/-- The machine with CP0 and DP0 ready and no record. -/
def ready : State :=
  { State.reset with cards := State.reset.cards.set 0 { card .ready with clipQueue := [] },
                     drives := State.reset.drives.set 0 { drive .online with claims := [] } }

theorem tableExact_ready : TableExact ready := by
  refine ⟨by decide, by decide, by decide, by decide, ?_, by decide, ?_⟩
  · intro id; simp [ready, State.reset]
  · intro d k
    have h : (ready.drive d).claims = [] := by revert d; decide
    have hc : ready.table.clips = [] := rfl
    simp only [h, hc, List.not_mem_nil, false_and, exists_false]

theorem witness_AdmitEmptyClipDone :
    TableExact ready ∧ Takes ready .admitClip 1 (admitBody (admission 0)) ∧
    decodeAdmit (admitBody (admission 0)) = some (admission 0) ∧ (∀ x ∈ ready.admissionChecks (admission 0), x = none) ∧
    (admission 0).length = 0 ∧ ready.oldestQueued 0 = none :=
  ⟨tableExact_ready, ⟨by decide, by decide⟩, by decide +kernel, by decide +kernel, by decide, by decide⟩

def idle (state : ClipState) : Clip := { clip state with inFlight := 0 }

theorem witness_CancelClosesClip :
    Takes (small (idle .reading)) .cancelClip 1 [1, 0] ∧ decodeClipId [1, 0] = some 1 ∧
    (small (idle .reading)).link.engine = .running ∧ (small (idle .reading)).clip? 1 = some (idle .reading) ∧
    (idle .reading).state.isOpen = true ∧ (idle .queued).state.isOpen = true ∧ (idle .draining).state.isOpen = true ∧
    (idle .reading).inFlight = 0 ∧ (small (clip .rechecking)).clip? 1 = some (clip .rechecking) ∧
    (clip .rechecking).state.isOpen = true ∧ 0 < (clip .rechecking).inFlight :=
  ⟨takes_small _ _ _ _ _ _ (by decide), by decide, rfl, by decide, by decide, by decide, by decide, rfl, by decide, by decide,
    by decide⟩

/-- Clip 2 waits QUEUED at CP0 behind the given clip, which goes to DP0 alone. -/
def withWaiting (c : Clip) (x : CardPort) : State :=
  let s := machine { c with dests := [dest 0] } { x with clipQueue := [1, 2] } (drive .online)
  { s with table := { s.table with clips := s.table.clips ++ [{ clip .queued with id := 2, dests := [], inFlight := 0 }] } }

/-- The oldest QUEUED clip of a READY port is promoted when the reading clip leaves READING or any clip of it ends, unless another
clip of the port reads. -/
theorem witness_OthersKept :
    (withWaiting (clip .reading) (card .ready)).promotedBy (clip .reading) .closing = some 2 ∧
    (withWaiting (clip .reading) (card .ready)).promotedBy (clip .reading) .draining = some 2 ∧
    (withWaiting (clip .reading) (card .ready)).promotedBy (clip .reading) .rechecking = none ∧
    (withWaiting (clip .closing) (card .ready)).promotedBy (clip .closing) .failed = some 2 ∧
    (withWaiting (clip .draining) (card .ready)).promotedBy (clip .draining) .draining = none ∧
    (withWaiting (clip .closing) (card .faulted)).promotedBy (clip .closing) .failed = none ∧
    (withWaiting (clip .reading) (card .ready)).clip? 2 = some { clip .queued with id := 2, dests := [], inFlight := 0 } := by decide

/-- One chunk read, and its check recorded. -/
def oneRead : Clip := { clip .reading with chunksRead := 1 }

theorem witness_TableRequestsThatRead :
    (small oneRead).link.engine = .running ∧ Takes (small oneRead) .queryClip 1 [1, 0] ∧ decodeClipId [1, 0] = some 1 ∧
    decodeClipId [0, 0] = some 0 ∧ (small oneRead).clip? 2 = none ∧ (small oneRead).clip? 1 = some oneRead ∧
    (clip .done).state.isTerminal = true ∧ (clip .closing).state = .closing ∧
    decodeReadChecks [1, 0, 0, 0, 0, 0, 1, 0] = some { clip := 1, first := 0, count := 1 } ∧
    decodeReadChecks [1, 0, 0, 0, 0, 0, 1, 4] = some { clip := 1, first := 0, count := 1025 } ∧
    decodeReadChecks [1, 0, 0, 0, 0, 0, 0, 4] = some { clip := 1, first := 0, count := 1024 } ∧ oneRead.chunksRead < 0 + 1024 ∧
    0 + 1 ≤ oneRead.chunksRead ∧ [(3 : Check)].length = 1 ∧
    (∀ i, i < 1 → (small oneRead).store.lookup 1 (0 + i) = [(3 : Check)][i]?) :=
  ⟨rfl, takes_small _ _ _ _ _ _ (by decide), by decide, by decide, by decide, by decide, rfl, rfl, by decide, by decide,
    by decide, by decide, by decide, rfl, by decide⟩

/-- Clip 1 has ended and heads the result list. -/
def ended : State := { small (idle .done) with table := { clips := [idle .done], results := [1] } }

theorem witness_PeekResultReadsHead :
    Takes ended .peekResult 1 [] ∧ ended.link.engine = .running ∧ ended.table.results = [1] ∧ ended.clip? 1 = some (idle .done) ∧
    State.reset.table.results = [] ∧ Takes (loaded 0 0 .resetting) .peekResult 1 [] ∧
    (∀ body, Takes (ended.answered .peekResult 1 body) .peekResult 2 []) := by
  refine ⟨⟨by decide, by decide⟩, rfl, rfl, by decide, rfl, takes_loaded _ _ _ _ _ (by decide), ?_⟩
  intro body
  exact ⟨by simp [State.answered, Link.answered, Receiver.completes, requestContent, Config.maxLength], rfl⟩

theorem witness_TakeResultTakesHead :
    Takes ended .takeResult 1 [1, 0] ∧ decodeClipId [1, 0] = some 1 ∧ ended.link.engine = .running ∧ ended.clip? 2 = none ∧
    ended.clip? 1 = some (idle .done) ∧ ended.table.results = [1] ∧
    (small (idle .reading)).clip? 1 = some (idle .reading) ∧ (small (idle .reading)).table.results.head? ≠ some 1 :=
  ⟨⟨by decide, by decide⟩, by decide, rfl, by decide, by decide, rfl, by decide, by decide⟩

def passRequest (first count : Nat) (data : List Byte) : PassRequest :=
  { generation := 5, first := first, count := count, data := data }

theorem witness_PassThroughAccepted :
    Takes ready .cardRead 1 [0, 5, 0, 0x60, 0x0F, 0, 0, 0, 0, 0, 0, 64] ∧
    decodeCardRead [0, 5, 0, 0x60, 0x0F, 0, 0, 0, 0, 0, 0, 64] = some (0, passRequest 3936 64 []) ∧
    (ready.card 0).presence = .ready ∧ (passRequest 3936 64 []).generation = (ready.card 0).generation ∧
    (ready.card 0).capacity = some 4000 ∧ 3936 + 64 ≤ 4000 ∧ (ready.card 0).passList.length < 4 ∧
    decodeDriveRead [0x10, 9, 0, 1, 0, 0, 0, 0, 0, 0, 0, 1] = some (0, { passRequest 1 1 [] with generation := 9 }) ∧
    decodeDriveWrite ([0x10, 9, 0, 1, 0, 0, 0, 0, 0, 0, 0, 1] ++ List.replicate 512 0)
      = some (0, { passRequest 1 1 (List.replicate 512 0) with generation := 9 }) ∧
    (ready.drive 0).presence = .online ∧ (ready.drive 0).capacity = some 9000 ∧ (ready.drive 0).generation = 9 ∧
    (∀ k ∈ ((small (clip .reading)).drive 0).claims, rangesOverlap 99 1 k.first k.count = false) :=
  ⟨⟨by decide, by decide⟩, by decide, by decide, by decide, by decide, by decide, by decide, by decide, by decide +kernel,
    by decide, by decide, by decide, by decide⟩

theorem witness_PassThroughRefused :
    decodeCardRead [0, 5, 0, 0x61, 0x0F, 0, 0, 0, 0, 0, 0, 64] = some (0, passRequest 3937 64 []) ∧
    Takes ready .cardRead 1 [0, 5, 0, 0x61, 0x0F, 0, 0, 0, 0, 0, 0, 64] ∧
    (FirstFails [ (ready.link.engine = .resetting, Status.resetting), (64 = 0 ∨ 64 < 64, .badValue),
       ((ready.card 0).presence ≠ .ready, .cardNotReady), (5 ≠ (ready.card 0).generation, .staleCard),
       (∀ cap, (ready.card 0).capacity = some cap → cap < 3937 + 64, .sourceRange),
       (4 ≤ (ready.card 0).passList.length, .passThroughFull) ] .sourceRange) ∧
    (FirstFails [ (∃ k ∈ ((small (clip .reading)).drive 0).claims, rangesOverlap 3099 1 k.first k.count = true, Status.claimed),
       (4 ≤ ((small (clip .reading)).drive 0).passList.length, .passThroughFull) ] .claimed) := by
  refine ⟨by decide, ⟨by decide, by decide⟩, ?_, ?_⟩
  · refine Or.inr ⟨by decide, Or.inr ⟨by decide, Or.inr ⟨by decide, Or.inr ⟨by decide, Or.inl ⟨?_, rfl⟩⟩⟩⟩⟩
    intro cap h
    have : (ready.card 0).capacity = some 4000 := by decide
    rw [this] at h; cases h; decide
  · exact Or.inl ⟨by decide, rfl⟩

/-! ### Witnesses: ports, commands and operations -/

theorem witness_DetectLineSettles :
    true ≠ (State.reset.card 0).detect ∧ (State.reset.card 0).presence = .empty ∧
    false ≠ (settling.card 0).detect ∧ (settling.card 0).presence = .settling ∧
    (let s := settling.setCard 0 { settling.card 0 with detect := false }
     (s.card 0).presence = .settling ∧ (s.card 0).settleTimer = true ∧ (s.card 0).detect = false) ∧
    true ≠ (State.reset.drive 0).detect ∧ (State.reset.drive 0).presence = .absent ∧
    false ≠ (settling.drive 0).detect ∧ (settling.drive 0).presence = .settling ∧
    (let s := settling.setDrive 0 { settling.drive 0 with detect := false }
     (s.drive 0).presence = .settling ∧ (s.drive 0).settleTimer = true ∧ (s.drive 0).detect = false) := by decide

/-- Both ports IDENTIFYING, the geometry answered. -/
def identifying (retries : Nat) : State :=
  machine (clip .draining)
    { card .identifying with
      op := some { cardOp (.identification (some { sectorSize := 512, capacity := 2 ^ 40 })) retries with done := 1 } }
    { drive .identifying with
      op := some { driveOp (.identification (some { sectorSize := 512, capacity := 2 ^ 40 })) retries with done := 1 } }

theorem witness_IdentificationEnds :
    ((identifying 3).card 0).op
      = some { cardOp (.identification (some { sectorSize := 512, capacity := 2 ^ 40 })) 3 with done := 1 } ∧
    (identifying 3).EngineStays (.card 0) ∧ ((identifying 3).card 0).presence = .identifying ∧
    ((identifying 2).drive 0).op
      = some { driveOp (.identification (some { sectorSize := 512, capacity := 2 ^ 40 })) 2 with done := 1 } ∧
    (identifying 2).EngineStays (.drive 0) ∧ ((identifying 2).drive 0).presence = .identifying :=
  ⟨by decide, Or.inl rfl, by decide, by decide, Or.inl rfl, by decide⟩

/-- The clip with its source and targets in two extents each, which cut the first chunk. -/
def cut (state : ClipState) : Clip :=
  { clip state with
    extents := [{ first := 0, count := 1 }, { first := 10, count := 2999 }],
    dests := [{ dest 0 with targets := [{ first := 100, count := 1 }, { first := 200, count := 2999 }] }] }

theorem witness_CommandsAdvance :
    ((identifying 0).setCard 0 { (identifying 0).card 0 with op := some (cardOp (.identification none) 0) } |>.card 0).op
      = some (cardOp (.identification none) 0) ∧
    (∀ task, task = CardTask.copyRead 1 0 3 ∨ task = .repairRead 1 0 0 3 ∨ task = .recheckRead 1 0 →
      ((withCardOp (cut .reading) (cardOp task 2)).card 0).op = some (cardOp task 2) ∧
      ((withCardOp (cut .reading) (cardOp task 2)).cardCommands task)[0]? = some (.read { first := 0, count := 1 }) ∧
      0 + 1 < ((withCardOp (cut .reading) (cardOp task 2)).cardCommands task).length) ∧
    (List.replicate 512 (0 : Byte)).length = 512 * 1 ∧ (cardOp (.recheckRead 1 0) 2).retries < 3 ∧
    (let s := withDriveOp (cut .reading) (drive .online) (driveOp (.chunkWrite entry) 1)
     (s.drive 0).op = some (driveOp (.chunkWrite entry) 1) ∧
     (s.driveCommands 0 (.chunkWrite entry))[0]? = some (.write { first := 100, count := 1 } []) ∧
     0 + 1 < (s.driveCommands 0 (.chunkWrite entry)).length ∧ (driveOp (.chunkWrite entry) 1).retries < 2) ∧
    (let s := withDriveOp (cut .reading) (drive .online) (driveOp (.verifyRead 1 0) 0)
     (s.driveCommands 0 (.verifyRead 1 0))[0]? = some (.read { first := 100, count := 1 }) ∧
     0 + 1 < (s.driveCommands 0 (.verifyRead 1 0)).length) := by
  refine ⟨by decide, ?_, List.length_replicate, by decide, by decide, by decide⟩
  rintro task (rfl | rfl | rfl) <;> decide

theorem witness_ChunksAreCut :
    2048 * 1 < totalSectors (cut .reading).extents ∧ (cut .reading).streamLength = totalSectors (cut .reading).extents ∧
    (small (cut .reading)).clip? 1 = some (cut .reading) ∧ (cut .reading).destOn 0 = (cut .reading).dests.head? ∧
    chunkRuns (cut .reading).extents 3000 0 = [{ first := 0, count := 1 }, { first := 10, count := 2047 }] ∧
    (let s := withDriveOp (cut .reading) (drive .online) (driveOp (.chunkWrite entry) 1)
     (s.driveCommands 0 (.chunkWrite entry))[1]? = some (.write { first := 200, count := 2047 } [])) := by decide

/-! ### Witnesses: grants and take-ups -/

def held : Slot := { state := .held, owner := some { clip := 1, chunk := 0 }, purpose := some .copy, refs := 2, data := [] }

/-- Every slot HELD but the last. -/
def oneFree (s : State) : State :=
  { s with slots := (Vector.replicate 512 held).set 511 Slot.reset }

theorem witness_RequestsAtTheArbiter :
    (∀ i, ({ State.reset with slots := Vector.replicate 512 held }.slot i).state ≠ .free) ∧
    (∀ q, State.reset.copyRequest q = false ∧ State.reset.repairRequest q = false) ∧
    (small (clip .reading)).copyRequest 0 = true ∧
    (let before := drive .online
     let after := { drive .online with writeQueue := [entry], highMark := 1, lowMark := 0 }
     after.writeQueue.length ≠ before.writeQueue.length ∧ after.latch = false ∧ { after with latch := true }.latch = true ∧
     before.writeQueue.length = before.writeQueue.length) := by
  refine ⟨?_, by decide, by decide, by decide⟩
  intro i
  simp [State.slot, held, Vector.get]

/-- Two repairs wait at CP0. -/
def repairing : State :=
  oneFree (machine (clip .reading)
    { card .ready with repairs := [{ clip := 1, chunk := 0, drive := 0 }, { clip := 1, chunk := 1, drive := 0 }] } (drive .online))

theorem slot_oneFree (s : State) (i : SlotId) : (oneFree s).slot i = if i = 511 then Slot.reset else held := by
  simp only [oneFree, State.slot, Vector.get_eq_getElem, Vector.getElem_set, Vector.getElem_replicate]
  by_cases h : i = 511
  · subst h; rfl
  · rw [if_neg h, if_neg]; intro e; exact h (Fin.ext e.symm)

theorem witness_GrantGivesRepairFirst :
    repairing.repairRequest 0 = true ∧ (∀ q, q < 0 → repairing.repairRequest q = false) ∧
    (repairing.card 0).repairs = [{ clip := 1, chunk := 0, drive := 0 }, { clip := 1, chunk := 1, drive := 0 }] ∧
    (repairing.slot 511).state = .free ∧ (∀ j, j < 511 → (repairing.slot j).state ≠ .free) := by
  refine ⟨by decide, by decide, by decide, ?_, ?_⟩
  · rw [repairing, slot_oneFree]; rfl
  · intro j hj
    rw [repairing, slot_oneFree, if_neg (by rintro rfl; exact absurd hj (by decide))]; decide

theorem witness_GrantGivesCopy :
    (∀ q, (small (clip .reading)).repairRequest q = false) ∧ (small (clip .reading)).copyRequest 0 = true ∧
    (∀ q, (small (clip .reading)).copyRequest q = true →
      (small (clip .reading)).arbiter.priority.get 0 ≤ (small (clip .reading)).arbiter.priority.get q ∧
      ((small (clip .reading)).arbiter.priority.get q = (small (clip .reading)).arbiter.priority.get 0 →
        ((0 : CardId).val + 7 - (small (clip .reading)).arbiter.roundRobin.val) % 8
          ≤ (q.val + 7 - (small (clip .reading)).arbiter.roundRobin.val) % 8)) ∧
    ((small (clip .reading)).slot 0).state = .free ∧ (∀ j : SlotId, j < 0 → ((small (clip .reading)).slot j).state ≠ .free) ∧
    (small (clip .reading)).readingClip? 0 = some (clip .reading) ∧
    (small (clip .reading)).arbiter.reserveMark < (small (clip .reading)).freeCount ∧
    (oneFree (small (clip .reading))).freeCount ≤ (oneFree (small (clip .reading))).arbiter.reserveMark ∧
    (oneFree (small (clip .reading))).arbiter.ceiling < (oneFree (small (clip .reading))).arbiter.priority.get 0 := by
  refine ⟨by decide, by decide, by decide, rfl, ?_, by decide, by decide +kernel, by decide +kernel, by decide⟩
  intro j hj; exact absurd hj (by simp)

theorem witness_ReadsTakenUpWithoutSlot :
    (let s := machine (clip .rechecking) { card .ready with recheck := some { clip := 1, position := 1, fresh := 0 } } (drive .online)
     (s.card 0).presence = .ready ∧ (s.card 0).op = none ∧ (s.card 0).passList = [] ∧
     (s.card 0).recheck = some { clip := 1, position := 1, fresh := 0 } ∧ s.clip? 1 = some (clip .rechecking) ∧
     1 < (clip .rechecking).chunkCount) ∧
    (let s := machine (clip .reading) { card .ready with passList := [passRecord .cardRead] }
       { drive .online with passList := [passRecord .driveRead] }
     (s.card 0).passList = [passRecord .cardRead] ∧ (s.card 0).presence = .ready ∧ (s.card 0).op = none ∧
     (s.drive 0).passList = [passRecord .driveRead] ∧ (s.drive 0).presence = .online ∧ (s.drive 0).op = none) := by decide

def working (run : Nat) (queue : List WriteEntry) (backlog : List BacklogEntry) : State :=
  machine (clip .reading) (card .ready) { drive .online with writeQueue := queue, backlog := backlog, runCount := run }

/-- A completed run of a port that a CANCEL CLIP leaves without work settles there, so that the next run is one of verify reads. -/
theorem test_removal_settles_run :
    ∃ t, exec (.cancelClip 1 [1, 0]) (working 16 [entry] []) = .next t ∧ (t.drive 0).phase = .verify ∧
      (t.drive 0).runCount = 0 ∧ (t.drive 0).writeQueue = [] := by
  refine ⟨_, rfl, ?_⟩
  decide +kernel

theorem witness_AlternationChooses :
    (∀ s ∈ [working 15 [entry] [], working 16 [entry] [{ clip := 1, chunk := 1 }], working 16 [] []],
      (s.drive 0).presence = .online ∧ (s.drive 0).op = none ∧ (s.drive 0).passList = []) ∧
    ((working 15 [entry] []).drive 0).writeQueue = [entry] ∧ ((working 15 [entry] []).drive 0).backlog.length < 1024 ∧
    ((working 15 [entry] []).drive 0).backlog = [] ∧
    ((working 16 [entry] [{ clip := 1, chunk := 1 }]).drive 0).backlog = [{ clip := 1, chunk := 1 }] ∧
    ((working 16 [entry] [{ clip := 1, chunk := 1 }]).drive 0).writeRun
      ≤ ((working 16 [entry] [{ clip := 1, chunk := 1 }]).drive 0).runCount ∧
    ((working 16 [] []).drive 0).writeQueue = [] ∧ ((working 16 [] []).drive 0).backlog = [] := by decide

/-! ### Witnesses: endings -/

theorem chunk0_ends (state : ClipState) (task : CardTask)
    (h : task = .copyRead 1 0 3 ∨ task = .repairRead 1 0 0 3 ∨ task = .recheckRead 1 0) :
    (withCardOp (clip state) (cardOp task 0)).CardEnds 0 (cardOp task 0) chunk0 := by
  refine ⟨rfl, ?_, { first := 0, count := 2048 }, ?_, chunk0_length⟩ <;>
  rcases h with rfl | rfl | rfl <;> rfl

theorem witness_CopyReadStagesChunk :
    (withCardOp (clip .reading) (cardOp (.copyRead 1 0 3) 0)).CardEnds 0 (cardOp (.copyRead 1 0 3) 0) chunk0 ∧
    (withCardOp (clip .reading) (cardOp (.copyRead 1 0 3) 0)).EngineStays (.card 0) ∧
    (withCardOp (clip .reading) (cardOp (.copyRead 1 0 3) 0)).clip? 1 = some (clip .reading) ∧
    (clip .reading).chunksRead + 1 ≠ (clip .reading).chunkCount ∧ 1 ≤ (clip .reading).activeCount :=
  ⟨chunk0_ends _ _ (Or.inl rfl), Or.inl rfl, by decide, by decide, by decide⟩

theorem witness_CopyReadEndsReading :
    (withCardOp oneRead (cardOp (.copyRead 1 1 3) 0)).CardEnds 0 (cardOp (.copyRead 1 1 3) 0) chunk1 ∧
    (withCardOp oneRead (cardOp (.copyRead 1 1 3) 0)).EngineStays (.card 0) ∧
    (withCardOp oneRead (cardOp (.copyRead 1 1 3) 0)).clip? 1 = some oneRead ∧ oneRead.state = .reading ∧
    oneRead.chunksRead + 1 = oneRead.chunkCount ∧ 1 ≤ oneRead.activeCount :=
  ⟨⟨rfl, rfl, { first := 2048, count := 952 }, rfl, chunk1_length⟩, Or.inl rfl, by decide, rfl, by decide, by decide⟩

def closing (inFlight : Nat) : Clip :=
  { clip .closing with pendingOutcome := some .cancelled, cause := some .cancelledByRequest, inFlight := inFlight }

def lostDest : Clip := { clip .reading with dests := [{ dest 0 with state := .lost, lossCause := some .driveFault }, dest 1] }

/-- A DRAINING clip with both destinations decided, whose one operation in flight is its last. -/
def decided : Clip :=
  { clip .draining with dests := [{ dest 0 with state := .lost, lossCause := some .driveFault }, { dest 1 with state := .copied }] }

theorem witness_DiscardedEndings :
    (∀ n, ∀ task ∈ [CardTask.copyRead 1 0 3, .repairRead 1 0 0 3, .recheckRead 1 0],
      (withCardOp (closing n) (cardOp task 0)).CardEnds 0 (cardOp task 0) chunk0 ∧
      (withCardOp (closing n) (cardOp task 0)).EngineStays (.card 0) ∧
      (withCardOp (closing n) (cardOp task 0)).clip? 1 = some (closing n) ∧
      (closing n).state = .closing ∧ (closing n).pendingOutcome = some .cancelled) ∧
    1 < (closing 2).inFlight ∧ (closing 1).inFlight ≤ 1 ∧
    (∀ c ∈ [closing 2, closing 1, lostDest, decided], (withDriveOp c (drive .online) (driveOp (.verifyRead 1 0) 0)).DriveReads 0
        (driveOp (.verifyRead 1 0) 0) chunk0 ∧
      (withDriveOp c (drive .online) (driveOp (.verifyRead 1 0) 0)).EngineStays (.drive 0) ∧
      (withDriveOp c (drive .online) (driveOp (.verifyRead 1 0) 0)).clip? 1 = some c) ∧
    (∀ c ∈ [lostDest, decided], c.state.isOpen = true ∧ c.activeOn 0 = false) := by
  refine ⟨?_, by decide, by decide, ?_, by decide⟩
  · intro n task ht
    simp only [List.mem_cons, List.not_mem_nil, or_false] at ht
    rcases ht with rfl | rfl | rfl <;>
      exact ⟨⟨rfl, rfl, { first := 0, count := 2048 }, rfl, chunk0_length⟩, Or.inl rfl, rfl, rfl, rfl⟩
  · intro c hc
    simp only [List.mem_cons, List.not_mem_nil, or_false] at hc
    rcases hc with rfl | rfl | rfl | rfl <;>
      exact ⟨⟨⟨rfl, rfl⟩, { first := 100, count := 2048 }, rfl, chunk0_length⟩, Or.inl rfl, rfl⟩

/-- The store holds a given check of chunk 0. -/
def recorded (c : Clip) (op : CardOp) (v : Check) : State :=
  { withCardOp c op with store := { rows := [{ clip := 1, entries := [some v, none] }], reserved := 2 } }

theorem witness_RepairReadJudged :
    (∀ c ∈ [clip .reading, lostDest, decided], ∀ v, (recorded c (cardOp (.repairRead 1 0 0 3) 0) v).CardEnds 0
        (cardOp (.repairRead 1 0 0 3) 0) chunk0 ∧
      (recorded c (cardOp (.repairRead 1 0 0 3) 0) v).EngineStays (.card 0) ∧
      (recorded c (cardOp (.repairRead 1 0 0 3) 0) v).clip? 1 = some c ∧ c.state.isOpen = true ∧
      (recorded c (cardOp (.repairRead 1 0 0 3) 0) v).store.lookup 1 0 = some v) ∧
    (clip .reading).activeOn 0 = true ∧ lostDest.activeOn 0 = false ∧ lostDest.state ≠ .draining ∧
    decided.activeOn 0 = false ∧ decided.state = .draining ∧ decided.activeCount = 0 ∧ decided.inFlight ≤ 1 ∧
    ∀ computed : Check, computed + 1 ≠ computed := by
  refine ⟨?_, by decide, by decide, by decide, by decide, by decide, by decide, by decide, fun v => by simp⟩
  intro c hc v
  have : c = clip .reading ∨ c = lostDest ∨ c = decided := by simpa using hc
  rcases this with rfl | rfl | rfl <;>
    exact ⟨⟨rfl, rfl, { first := 0, count := 2048 }, rfl, chunk0_length⟩, Or.inl rfl, rfl, rfl, rfl⟩

/-- A clip of one full chunk. -/
def oneChunk (state : ClipState) : Clip :=
  { clip state with extents := [{ first := 0, count := 2048 }], streamLength := 2048, chunkCount := 1 }

/-- CP0 rechecks chunk 0 of a clip with a digest. -/
def rechecking (c : Clip) (digest : Option Digest) : State :=
  machine { c with digest := digest }
    { card .ready with recheck := some { clip := 1, position := 0, fresh := 0 }, op := some (cardOp (.recheckRead 1 0) 0) }
    (drive .online)

theorem witness_RecheckReadAdvances :
    (∀ digest, ∀ c ∈ [clip .rechecking, oneChunk .rechecking],
      (rechecking c digest).CardEnds 0 (cardOp (.recheckRead 1 0) 0) chunk0 ∧
      (rechecking c digest).EngineStays (.card 0) ∧ (rechecking c digest).clip? 1 = some { c with digest := digest } ∧
      c.state = .rechecking ∧ ((rechecking c digest).card 0).recheck = some { clip := 1, position := 0, fresh := 0 }) ∧
    0 + 1 ≠ (clip .rechecking).chunkCount ∧ 0 + 1 = (oneChunk .rechecking).chunkCount ∧
    ∀ computed : Digest, none ≠ some computed := by
  refine ⟨?_, by decide, by decide, fun v h => by cases h⟩
  intro digest c hc
  simp only [List.mem_cons, List.not_mem_nil, or_false] at hc
  rcases hc with rfl | rfl <;>
    exact ⟨⟨rfl, rfl, { first := 0, count := 2048 }, rfl, chunk0_length⟩, Or.inl rfl, rfl, rfl, rfl⟩

theorem witness_PassThroughEnds :
    (let s := withCardOp (clip .reading) (cardOp (.passThrough (passRecord .cardRead)) 3)
     s.CardEnds 0 (cardOp (.passThrough (passRecord .cardRead)) 3) (List.replicate 512 0) ∧ s.EngineStays (.card 0) ∧
     3 ≤ (cardOp (.passThrough (passRecord .cardRead)) 3).retries) ∧
    (let s := withDriveOp (clip .reading) (drive .online) (driveOp (.passThrough (passRecord .driveRead)) 2)
     s.DriveReads 0 (driveOp (.passThrough (passRecord .driveRead)) 2) (List.replicate 512 0) ∧ s.EngineStays (.drive 0) ∧
     2 ≤ (driveOp (.passThrough (passRecord .driveRead)) 2).retries) ∧
    (let s := withDriveOp (clip .reading) (drive .online) (driveOp (.passThrough (passRecord .driveWrite)) 2)
     (s.drive 0).op = some (driveOp (.passThrough (passRecord .driveWrite)) 2) ∧ (passRecord .driveWrite).kind = .driveWrite ∧
     (driveOp (.passThrough (passRecord .driveWrite)) 2).done = 0) :=
  ⟨⟨⟨rfl, rfl, { first := 0, count := 1 }, rfl, List.length_replicate⟩, Or.inl rfl, by decide⟩,
    ⟨⟨⟨rfl, rfl⟩, { first := 0, count := 1 }, rfl, List.length_replicate⟩, Or.inl rfl, by decide⟩, rfl, rfl, rfl⟩

/-- DP0 writes the entry that heads its queue. -/
def writing (c : Clip) (queue : List WriteEntry) : State :=
  { withDriveOp c { drive .online with writeQueue := queue } (driveOp (.chunkWrite entry) 0) with
    slots := State.reset.slots.set 4 held }

theorem witness_ChunkWriteCompletes :
    (∀ c ∈ [clip .draining, decided, closing 2, closing 1], ∀ queue,
      (writing c queue).DriveWrites 0 (driveOp (.chunkWrite entry) 0) ∧
      (writing c queue).EngineStays (.drive 0) ∧ (writing c queue).clip? 1 = some c) ∧
    (∀ n, (closing n).state = .closing ∧ (closing n).pendingOutcome = some .cancelled) ∧ decided.state.isOpen = true ∧
    entry ∈ ((writing (clip .draining) [entry]).drive 0).writeQueue ∧
    ((writing (clip .draining) [entry]).slot entry.slot).purpose = some .copy ∧ (clip .draining).state.isOpen = true ∧
    (clip .draining).activeOn 0 = true ∧ (clip .draining).policy ≠ .none ∧
    entry ∉ ((writing (clip .draining) []).drive 0).writeQueue := by
  refine ⟨?_, fun _ => ⟨rfl, rfl⟩, by decide, by decide, by decide, by decide, by decide, by decide, by decide⟩
  intro c hc queue
  simp only [List.mem_cons, List.not_mem_nil, or_false] at hc
  rcases hc with rfl | rfl | rfl | rfl <;> exact ⟨⟨⟨rfl, rfl⟩, { first := 100, count := 2048 }, _, rfl⟩, Or.inl rfl, rfl⟩

/-- A clip under NONE with one destination, whose last chunk is being written. -/
def unverified (state : ClipState) (written inFlight : Nat) : Clip :=
  { clip state with policy := .none, recheck := none, inFlight := inFlight, dests := [{ dest 0 with chunksWritten := written }] }

/-- The same with a second destination on DP1, in a state of its own. -/
def unverifiedTwo (other : DestState) : Clip :=
  { unverified .draining 1 1 with dests := [{ dest 0 with chunksWritten := 1 }, { dest 1 with state := other }] }

theorem witness_ChunkWriteProvesUnderNone :
    (∀ c ∈ [unverified .draining 1 1, unverified .draining 1 2, unverified .reading 1 1, unverified .draining 0 1,
        unverifiedTwo .active, unverifiedTwo .copied, unverifiedTwo .lost],
      (writing c [entry]).DriveWrites 0 (driveOp (.chunkWrite entry) 0) ∧ (writing c [entry]).EngineStays (.drive 0) ∧
      entry ∈ ((writing c [entry]).drive 0).writeQueue ∧ ((writing c [entry]).slot entry.slot).purpose = some .copy ∧
      (writing c [entry]).clip? 1 = some c ∧ c.state.isOpen = true ∧ c.activeOn 0 = true ∧
      (c.dests.map Destination.drive).Nodup ∧ c.policy = .none ∧ c.pendingOutcome = none) ∧
    1 + 1 = (unverified .draining 1 1).chunkCount ∧ (unverified .draining 1 1).inFlight ≤ 1 ∧
    1 < (unverified .draining 1 2).inFlight ∧ 0 + 1 ≠ (unverified .draining 0 1).chunkCount ∧
    (unverifiedTwo .active).activeCount = 2 ∧ (unverifiedTwo .lost).activeCount = 1 := by
  refine ⟨?_, by decide, by decide, by decide, by decide, by decide, by decide⟩
  intro c hc
  simp only [List.mem_cons, List.not_mem_nil, or_false] at hc
  rcases hc with rfl | rfl | rfl | rfl | rfl | rfl | rfl <;>
    exact ⟨⟨⟨rfl, rfl⟩, { first := 100, count := 2048 }, _, rfl⟩, Or.inl rfl, by decide, by decide, rfl, rfl, by decide, by decide,
      rfl, rfl⟩

/-- DP0 verifies chunk 0 of the clip, whose recorded check is given. -/
def verifying (c : Clip) (x : CardPort) (v : Check) : State :=
  { machine c x { drive .online with backlog := [{ clip := 1, chunk := 0 }], op := some (driveOp (.verifyRead 1 0) 0) } with
    store := { rows := [{ clip := 1, entries := [some v, none] }], reserved := 2 } }

/-- The clip in DRAINING with its last chunk to verify on its only destination. -/
def lastVerify : Clip := { clip .draining with dests := [{ dest 0 with chunksWritten := 2, chunksVerified := 1 }] }

theorem witness_VerifyMatchProves :
    (∀ c ∈ [clip .draining, lastVerify], ∀ v,
      (verifying c (card .ready) v).DriveReads 0 (driveOp (.verifyRead 1 0) 0) chunk0 ∧
      (verifying c (card .ready) v).EngineStays (.drive 0) ∧ (verifying c (card .ready) v).store.lookup 1 0 = some v ∧
      (verifying c (card .ready) v).clip? 1 = some c ∧ c.state.isOpen = true ∧ c.activeOn 0 = true ∧ c.policy ≠ .none ∧
      (c.dests.map Destination.drive).Nodup) ∧
    lastVerify.state = .draining ∧ lastVerify.inFlight = 1 ∧ (lastVerify.modDest 0 (fun x => { x with state := .copied })).activeCount = 0 := by
  refine ⟨?_, by decide, by decide, by decide⟩
  intro c hc v
  simp only [List.mem_cons, List.not_mem_nil, or_false] at hc
  rcases hc with rfl | rfl <;>
    exact ⟨⟨⟨rfl, rfl⟩, { first := 100, count := 2048 }, rfl, chunk0_length⟩, Or.inl rfl, rfl, rfl, by decide, by decide,
      by decide, by decide⟩

def repaired (n : Nat) : Clip := { clip .draining with dests := [{ dest 0 with repairsUsed := n }, dest 1] }

def fullRepairs : CardPort := { card .ready with repairs := List.replicate 32 { clip := 1, chunk := 0, drive := 1 } }

theorem witness_VerifyMismatchJudged :
    (∀ n v x, (verifying (repaired n) x v).DriveReads 0 (driveOp (.verifyRead 1 0) 0) chunk0 ∧
      (verifying (repaired n) x v).EngineStays (.drive 0) ∧ (verifying (repaired n) x v).store.lookup 1 0 = some v ∧
      (verifying (repaired n) x v).clip? 1 = some (repaired n) ∧ (repaired n).state.isOpen = true ∧
      (repaired n).destOn 0 = some { dest 0 with repairsUsed := n } ∧ ((repaired n).dests.map Destination.drive).Nodup) ∧
    (∀ computed : Check, computed + 1 ≠ computed) ∧
    ((verifying (repaired 3) (card .faulted) 0).card 0).presence ≠ .ready ∧
    ((verifying (repaired 3) (card .ready) 0).card 0).presence = .ready ∧
    ((verifying (repaired 3) (card .ready) 0).card 0).generation = (repaired 3).generation ∧
    ((verifying (repaired 3) (card .ready) 0).card 0).repairs.length < 32 ∧
    32 ≤ ((verifying (repaired 3) fullRepairs 0).card 0).repairs.length ∧
    (let lost := { repaired 4 with dests := [{ dest 0 with repairsUsed := 4, state := .lost }, dest 1] }
     (repaired 4).required ≤ lost.standing ∧ lost.standing < 2) := by
  refine ⟨fun n v x => ⟨⟨⟨rfl, rfl⟩, { first := 100, count := 2048 }, rfl, chunk0_length⟩, Or.inl rfl, rfl, rfl, rfl, rfl, by simp [repaired, dest]⟩,
    fun v => by simp, by decide, by decide, by decide, by decide, by decide, by decide⟩

/-! ### Witnesses: failures, losses and ends -/

theorem witness_CardReadFails :
    (∀ c ∈ [clip .reading, clip .rechecking, clip .draining, lostDest, decided, closing 2, closing 1],
      ∀ task ∈ [CardTask.copyRead 1 0 3, .repairRead 1 0 0 3, .recheckRead 1 0],
      ((withCardOp c (cardOp task 3)).card 0).op = some (cardOp task 3) ∧
      ((withCardOp c (cardOp task 3)).cardCommands task)[0]? = some (.read { first := 0, count := 2048 }) ∧
      (withCardOp c (cardOp task 3)).EngineStays (.card 0) ∧
      (withCardOp c (cardOp task 3)).clip? 1 = some c) ∧
    (∀ c ∈ [lostDest, decided], c.state.isOpen = true ∧ c.activeOn 0 = false) ∧
    (∀ n, (closing n).state = .closing ∧ (closing n).pendingOutcome = some .cancelled) ∧
    ((withCardOp (closing 1) (cardOp (.copyRead 1 0 3) 3)).card 0).fills = some (3, { clip := 1, chunk := 0 }, .copy) ∧
    ((withCardOp (closing 1) (cardOp (.recheckRead 1 0) 3)).card 0).fills = none ∧
    (clip .reading).state = .reading ∧ (clip .draining).state.isOpen = true ∧ (clip .draining).activeOn 0 = true ∧
    (clip .rechecking).state = .rechecking ∧
    (let lost := { clip .draining with required := 2, dests := [{ dest 0 with state := .lost }, dest 1] }
     lost.standing < lost.required) ∧
    (clip .draining).required ≤ (clip .draining).standing := by
  refine ⟨?_, by decide, fun _ => ⟨rfl, rfl⟩, by decide, by decide, by decide, by decide, by decide, by decide, by decide,
    by decide⟩
  intro c hc task ht
  simp only [List.mem_cons, List.not_mem_nil, or_false] at hc ht
  rcases hc with rfl | rfl | rfl | rfl | rfl | rfl | rfl <;> rcases ht with rfl | rfl | rfl <;> exact ⟨rfl, rfl, Or.inl rfl, rfl⟩

/-- A DRAINING clip that needs both destinations and is owed a repair for DP0. -/
def needsBoth : Clip := { clip .draining with required := 2 }

def owing (c : Clip) : State :=
  machine c { card .ready with repairs := [{ clip := 1, chunk := 0, drive := 0 }] } (drive .online)

theorem witness_CardLossApplied :
    (let s := withCardOp (clip .reading) (cardOp (.copyRead 1 0 3) 0)
     s.EngineStays (.card 0) ∧ (s.card 0).presence.holdsCard = true ∧ (s.card 0).presence = .ready ∧
     (s.cardCommand 0).isSome = true ∧ (s.card 0).fills = some (3, { clip := 1, chunk := 0 }, .copy) ∧
     s.clip? 1 = some (clip .reading) ∧ (clip .reading).unreadAt (s.card 0) = true ∧
     (clip .reading).losesSource (s.card 0) 0 = false) ∧
    (let s := withCardOp (clip .rechecking) (cardOp (.passThrough (passRecord .cardRead)) 0)
     s.clip? 1 = some (clip .rechecking) ∧ (s.card 0).passNow = [passRecord .cardRead] ∧ (s.card 0).fills = none ∧
     (clip .rechecking).state = .rechecking ∧ 1 ∈ (s.card 0).clipQueue) ∧
    (let s := owing needsBoth
     s.clip? 1 = some needsBoth ∧ needsBoth.losesSource (s.card 0) 0 = true ∧ needsBoth.losesSource (s.card 0) 1 = false ∧
     needsBoth.tooFewAt (s.card 0) = true ∧ (clip .draining).tooFewAt (s.card 0) = false) ∧
    (1 ∉ (small (clip .reading) |>.card 1).clipQueue ∧ (clip .reading).tooFewAt ((small (clip .reading)).card 1) = false) ∧
    (clip .closing).state.isOpen = false ∧
    (CardPresence.identifying.holdsCard = true ∧ CardPresence.faulted.holdsCard = true) :=
  ⟨⟨Or.inl rfl, by decide, by decide, by decide, by decide, by decide, by decide, by decide⟩, by decide, by decide, by decide,
    by decide, by decide⟩

theorem witness_DriveLossApplied :
    (∀ c ∈ [clip .draining, clip .reading, needsBoth], let s := writing c [entry]
     LegalSettings s ∧ s.EngineStays (.drive 0) ∧ (s.drive 0).presence.holdsDrive = true ∧ (s.drive 0).presence = .online ∧
     (s.driveCommand 0).isSome = true ∧ s.entriesNaming entry.slot = 1 ∧ s.clip? 1 = some c ∧ c.losesDrive 0 = true) ∧
    (clip .draining).tooFewWithout 0 = false ∧ needsBoth.tooFewWithout 0 = true ∧
    (clip .closing).state.isOpen = false ∧ (clip .done).state.isTerminal = true ∧
    (∀ task ∈ [DriveTask.chunkWrite entry, .verifyRead 1 0],
      ((withDriveOp (clip .draining) (drive .online) (driveOp task 2)).drive 0).op = some (driveOp task 2) ∧
      ((withDriveOp (clip .draining) (drive .online) (driveOp task 2)).driveCommand 0).isSome = true ∧
      2 ≤ (driveOp task 2).retries) := by
  refine ⟨?_, by decide, by decide, by decide, by decide, by decide⟩
  intro c hc
  simp only [List.mem_cons, List.not_mem_nil, or_false] at hc
  rcases hc with rfl | rfl | rfl <;>
    exact ⟨by unfold LegalSettings; decide, Or.inl rfl, by decide, by decide, by decide, by decide, rfl, by decide⟩

theorem tableExact_waiting : TableExact (withWaiting (clip .reading) (card .ready)) := by
  refine ⟨by decide, by decide, by decide, by decide, ?_, by decide, ?_⟩
  · intro id; simp [withWaiting, machine, clip, ClipState.isTerminal]
  · intro d k
    have h : ∀ d, ((withWaiting (clip .reading) (card .ready)).drive d).claims
        = if d = 0 then [{ clip := 1, first := 100, count := 3000 }] else [] := by decide
    rw [h]
    by_cases hd : d = 0
    · simp [hd, withWaiting, machine, clip, dest, ClipState.isTerminal]
    · simp [hd, withWaiting, machine, clip, dest, ClipState.isTerminal, Ne.symm hd]

/-- The loss of the reading clip's only drive lets the clip behind it read. -/
theorem test_drive_loss_promotes :
    ∃ t, exec (.driveRemoval 0) (withWaiting (clip .reading) (card .ready)) = .next t ∧
      (t.clip? 1).map Clip.state = some .closing ∧ (t.clip? 2).map Clip.state = some .reading ∧
      (withWaiting (clip .reading) (card .ready)).promotedAt t 0 = some 2 := by
  refine ⟨_, rfl, ?_⟩
  decide +kernel

/-- Clip 1 waits in CLOSING for the write that a drive loss abandons; clip 9, admitted before it, ends by the loss itself and
follows it in the result list (log 24). -/
theorem test_drive_loss_order :
    let first : Clip := { clip .draining with id := 9, dests := [dest 0], inFlight := 0 }
    let s := writing (closing 1) []
    ∃ t, exec (.driveRemoval 0) { s with table := { s.table with clips := first :: s.table.clips } } = .next t ∧
      t.table.results = [1, 9] := by
  refine ⟨_, rfl, ?_⟩
  decide +kernel

theorem witness_TerminalEntryTaken :
    (small (closing 0)).clip? 1 = some (closing 0) ∧ (closing 0).inFlight = 0 ∧ (closing 0).state = .closing ∧
    (closing 0).pendingOutcome = some .cancelled ∧
    (let decided := { idle .draining with dests := [{ dest 0 with state := .copied }] }
     decided.inFlight = 0 ∧ decided.state = .draining ∧ decided.activeCount = 0 ∧ decided.pendingOutcome = none) ∧
    ¬ ((clip .draining).inFlight = 0 ∧
        ((clip .draining).state = .closing ∨ ((clip .draining).state = .draining ∧ (clip .draining).activeCount = 0))) := by
  decide

theorem witness_EngineResetAccepted :
    Takes (small (clip .reading)) .engineReset 1 [] ∧ (small (clip .reading)).link.engine = .running ∧
    (small (clip .reading)).quiet = true ∧ (withCardOp (clip .reading) (cardOp (.copyRead 1 0 3) 0)).quiet = false ∧
    Takes (withCardOp (clip .reading) (cardOp (.copyRead 1 0 3) 0)) .engineReset 1 [] ∧
    (withCardOp (clip .reading) (cardOp (.copyRead 1 0 3) 0)).clip? 1 = some (clip .reading) ∧
    (clip .reading).state.isOpen = true ∧
    Takes (withCardOp (closing 1) (cardOp (.copyRead 1 0 3) 0)) .engineReset 1 [] ∧
    (withCardOp (closing 1) (cardOp (.copyRead 1 0 3) 0)).clip? 1 = some (closing 1) ∧ 0 < (closing 1).inFlight ∧
    (closing 0).state = .closing :=
  ⟨takes_small _ _ _ _ _ _ (by decide), rfl, by decide, by decide, takes_small _ _ _ _ _ _ (by decide), by decide, by decide,
    takes_small _ _ _ _ _ _ (by decide), by decide, by decide, by decide⟩

/-- A RESETTING engine whose last operation, a pass-through read at CP0, is in flight. -/
def draining : State :=
  { withCardOp (closing 0) (cardOp (.passThrough (passRecord .cardRead)) 0) with
    link := { Link.reset with engine := .resetting, resetTag := some 10, outstanding := [10] } }

theorem witness_EngineLeavesResetting :
    (loaded 1 0 .resetting).link.engine = .resetting ∧ (loaded 1 0 .resetting).link.resetTag = some 10 ∧
    (∀ p, ((loaded 1 0 .resetting).card p).op = none) ∧ (∀ d, ((loaded 1 0 .resetting).drive d).op = none) ∧
    State.reset.link.engine = .running ∧
    draining.link.engine = .resetting ∧ draining.link.resetTag = some 10 ∧ draining.quiet = false ∧
    (∃ t, exec (.cardReadCompletes 0 (List.replicate 512 0)) draining = .next t ∧ t.quiet = true) ∧ (draining.card 0).op ≠ none := by
  refine ⟨by decide, by decide, by decide, by decide, by decide, by decide, by decide, by decide, ?_, by decide⟩
  refine ⟨_, rfl, ?_⟩
  decide +kernel

/-! ### Witnesses: invariants -/

/-- The reset state with a grant waiting steps, so no invariant's premises are empty. -/
def begun : State := { State.reset with pending := [.grant] }

theorem steps_begun : ∃ t, step begun = .next t := ⟨_, rfl⟩

theorem witness_StepKeepsPortsConsistent : PortsConsistent begun ∧ ResettingBusy begun := by
  refine ⟨⟨?_, ?_⟩, ?_⟩
  · intro p; simp only [CardPort.Consistent]; revert p; decide
  · intro d; simp only [DrivePort.Consistent]; revert d; decide
  · intro h; cases h

theorem witness_StepKeepsLegalSettings : LegalSettings begun := by unfold LegalSettings; decide

theorem witness_StepKeepsTagsAccounted : LinkBounded begun ∧ TagsAccounted begun := by
  refine ⟨by unfold LinkBounded; decide, by unfold TagsAccounted; decide⟩

theorem witness_StepKeepsTableExact : TableSettled begun ∧ TableExact begun := by
  refine ⟨by unfold TableSettled; decide, by decide, by decide, by decide, by decide, ?_, by decide, ?_⟩
  · intro id; simp [begun, State.reset]
  · intro d k
    have h : (begun.drive d).claims = [] := by revert d; decide
    have hc : begun.table.clips = [] := rfl
    simp only [h, hc, List.not_mem_nil, false_and, exists_false]

theorem witness_StepKeepsClaimsExclusive : ClaimsExclusive begun := by unfold ClaimsExclusive; decide

theorem witness_StepKeepsPoolExact : PoolExact begun := by
  have hs : ∀ i, begun.slot i = Slot.reset := by intro i; simp [begun, State.reset, State.slot, Vector.get]
  have hf : ∀ p, (begun.card p).fills = none := by decide
  refine ⟨?_, ?_, ?_, ?_⟩
  · intro i
    rw [hs i]
    refine ⟨rfl, rfl, rfl, ?_⟩
    have : ∀ d, (begun.drive d).writeQueue = [] := by decide
    simp [State.entriesNaming, this, allDrives]
  · intro p i o u h; rw [hf p] at h; cases h
  · intro p q i o u o' u' h; rw [hf p] at h; cases h
  · intro p; rw [hf p]; revert p; decide

/-- Clip 1 has been read and written to DP0, which reads its last chunk back: one verify read in flight, its entry on the backlog. -/
def proving : State :=
  { machine
      { clip .draining with chunksRead := 2, dests := [{ dest 0 with chunksWritten := 2, chunksVerified := 1 }], recheck := some .passed }
      (card .ready) { drive .online with backlog := [{ clip := 1, chunk := 1 }], op := some (driveOp (.verifyRead 1 1) 0) } with
    pending := [.intervalTimerExpiry] }

theorem steps_proving : ∃ t, step proving = .next t := ⟨_, rfl⟩

theorem tableExact_proving : TableExact proving := by
  refine ⟨by decide, by decide, by decide, by decide, ?_, by decide, ?_⟩
  · intro id; simp [proving, machine, clip, ClipState.isTerminal]
  · intro d k
    have h : ∀ d, (proving.drive d).claims = if d = 0 then [{ clip := 1, first := 100, count := 3000 }] else [] := by decide
    rw [h]
    by_cases hd : d = 0
    · simp [hd, proving, machine, clip, dest, ClipState.isTerminal]
    · simp [hd, proving, machine, clip, dest, ClipState.isTerminal, Ne.symm hd]

theorem poolExact_proving : PoolExact proving := by
  have hs : ∀ i, proving.slot i = Slot.reset := by intro i; simp [proving, machine, State.reset, State.slot, Vector.get]
  have hf : ∀ p, (proving.card p).fills = none := by decide
  have hq : ∀ d, (proving.drive d).writeQueue = [] := by decide
  refine ⟨fun i => ?_, fun p i o u h => ?_, fun p q i o u o' u' h => ?_, fun p => ?_⟩
  · rw [hs i]
    exact ⟨rfl, rfl, rfl, by simp [State.entriesNaming, hq, allDrives]⟩
  · rw [hf p] at h; cases h
  · rw [hf p] at h; cases h
  · rw [hf p]; revert p; decide

theorem countsExact_proving : CountsExact proving := by
  have hc : ∀ p, (proving.card p).touches = none := by decide
  have hd : ∀ d, (proving.drive d).touches = if d = 0 then some 1 else none := by decide
  refine ⟨by decide, fun p id h => ?_, fun d id h => ?_⟩
  · rw [hc p] at h; cases h
  · rw [hd d] at h
    by_cases h0 : d = 0
    · subst h0; cases h; exact ⟨_, rfl, rfl, _, rfl⟩
    · rw [if_neg h0] at h; cases h

theorem workAccounted_proving : WorkAccounted proving := by
  have hq : ∀ d, (proving.drive d).writeQueue = [] := by decide
  have hb : ∀ d, (proving.drive d).backlog = if d = 0 then [{ clip := 1, chunk := 1 }] else [] := by decide
  have hp : ∀ p, (proving.card p).repairs = [] ∧ (proving.card p).recheck = none ∧ (proving.card p).op = none := by decide
  have ho : ∀ d, (proving.drive d).op = if d = 0 then some (driveOp (.verifyRead 1 1) 0) else none := by decide
  refine ⟨by decide, by decide, fun d e h => ?_, fun d e h => ?_, fun p e h => ?_, fun d op id chunk c h ht _ _ _ => ?_,
    fun p r h => ?_, fun p op id chunk h => ?_⟩
  · rw [hq d] at h; cases h
  · rw [hb d] at h
    by_cases h0 : d = 0
    · subst h0
      obtain rfl : e = { clip := 1, chunk := 1 } := by simpa using h
      exact ⟨_, rfl, rfl, by decide⟩
    · rw [if_neg h0] at h; cases h
  · rw [(hp p).1] at h; cases h
  · rw [ho d] at h
    by_cases h0 : d = 0
    · subst h0; cases h; cases ht; decide
    · rw [if_neg h0] at h; cases h
  · rw [(hp p).2.1] at h; cases h
  · rw [(hp p).2.2] at h; cases h

theorem witness_StepKeepsCountsExact :
    PortsConsistent proving ∧ TableExact proving ∧ TableSettled proving ∧ PoolExact proving ∧ CountsExact proving ∧
    WorkAccounted proving := by
  refine ⟨⟨?_, ?_⟩, tableExact_proving, by unfold TableSettled; decide, poolExact_proving, countsExact_proving,
    workAccounted_proving⟩
  · intro p; simp only [CardPort.Consistent]; revert p; decide
  · intro d; simp only [DrivePort.Consistent]; revert d; decide

end Sys2Proof.Tests
end

section
/-! SUPPORT. PEEK RESULT (01 R32): the reply's body is a function of the engine state and of the table, both of which the
answer leaves as they were, so a read repeated gives the same record. -/

namespace Sys2Proof.Machine

/-! ### The engine state -/

theorem State.isResetting_of_resetting {s : State} (h : s.link.engine = .resetting) : s.isResetting = true := by
  simp [State.isResetting, h]

theorem State.isResetting_of_running {s : State} (h : s.link.engine = .running) : s.isResetting = false := by
  simp [State.isResetting, h]

/-! ### The head of the result list -/

theorem State.resultHead_nil {s : State} (h : s.table.results = []) : s.resultHead = none := by
  simp [State.resultHead, h]

theorem State.resultHead_cons {s : State} {id : Nat} {rest : List Nat} (h : s.table.results = id :: rest) :
    s.resultHead = s.clip? id := by
  simp [State.resultHead, h]

/-! ### The reply's body -/

/-- The body with which a state answers an accepted PEEK RESULT. -/
def State.peekBody (s : State) : ReplyBody :=
  if s.isResetting then .refused .resetting
  else
    match s.resultHead with
    | some c => .peeked s.table.results.length c.result
    | none => .noResult

theorem State.peekBody_resetting {s : State} (h : s.link.engine = .resetting) : s.peekBody = .refused .resetting := by
  simp [State.peekBody, State.isResetting_of_resetting h]

theorem State.peekBody_empty {s : State} (h : s.link.engine = .running) (hr : s.table.results = []) :
    s.peekBody = .noResult := by
  simp [State.peekBody, State.isResetting_of_running h, State.resultHead_nil hr]

theorem State.peekBody_head {s : State} {id : Nat} {rest : List Nat} {c : Clip} (h : s.link.engine = .running)
    (hr : s.table.results = id :: rest) (hc : s.clip? id = some c) : s.peekBody = .peeked (rest.length + 1) c.result := by
  have hhead : s.resultHead = some c := (State.resultHead_cons hr).trans hc
  simp [State.peekBody, State.isResetting_of_running h, hhead, hr]

/-- The link's bookkeeping of an answered request is nothing that PEEK RESULT reads. -/
@[simp] theorem State.answered_peekBody (s : State) (kind : RequestKind) (tag : Byte) (body : ReplyBody) :
    (s.answered kind tag body).peekBody = s.peekBody := rfl

/-! ### The request -/

theorem State.takePeek_accepted (s : State) (tag : Byte) :
    (s.accepted tag).takePeek tag = s.answered .peekResult tag s.peekBody := by
  have hhead : (s.accepted tag).resultHead = s.resultHead := rfl
  unfold State.takePeek State.peekBody
  rw [State.accepted_isResetting, hhead]
  by_cases hreset : s.isResetting = true
  · simp only [hreset, if_true, State.accepted_reply]
  · simp only [hreset]
    cases s.resultHead <;> exact State.accepted_reply ..

/-- An accepted PEEK RESULT is answered with the body its state gives, and changes nothing outside the link. -/
theorem exec_peekResult_answered {s : State} {tag : Byte} (h : Takes s .peekResult tag []) :
    exec (.peekResult tag []) s = .next (s.answered .peekResult tag s.peekBody) := by
  have hdecode : decodeEmpty [] = some () := rfl
  calc exec (.peekResult tag []) s
      = .next (s.request .peekResult tag [] decodeEmpty (fun _ s => s.takePeek tag)) := rfl
    _ = .next ((s.accepted tag).takePeek tag) := by rw [State.request_taken h hdecode]
    _ = .next (s.answered .peekResult tag s.peekBody) := by rw [State.takePeek_accepted]

/-! ### The bytes of the reply (08 R177) -/

theorem peekReply_content_noResult (tag : Byte) :
    ({ kind := .peekResult, tag := tag, body := .noResult, linkRefusal := false } : Reply).content =
      ([0x88, tag, 0x00, 0x00, 0x00] : List Byte).map some := rfl

theorem peekReply_content_peeked (tag : Byte) (n : Nat) (r : ResultRecord) :
    ({ kind := .peekResult, tag := tag, body := .peeked n r, linkRefusal := false } : Reply).content =
      ([0x88, tag, 0x00] ++ leBytes 2 n : List Byte).map some ++ r.field := by
  have hprefix : num 1 (0x80 + RequestKind.peekResult.code) ++ raw [tag] ++ num 1 Status.ok.code =
      ([0x88, tag, 0x00] : List Byte).map some := rfl
  calc ({ kind := .peekResult, tag := tag, body := .peeked n r, linkRefusal := false } : Reply).content
      = num 1 (0x80 + RequestKind.peekResult.code) ++ raw [tag] ++ num 1 Status.ok.code ++ (num 2 n ++ r.field) := rfl
    _ = ([0x88, tag, 0x00] ++ leBytes 2 n : List Byte).map some ++ r.field := by
      rw [hprefix, List.map_append, List.append_assoc, num]

/-- Settles O23: each case is the body its state gives, and the answered state gives the same body again. -/
theorem peekResultReadsHead : Obligations.PeekResultReadsHead := by
  unfold Obligations.PeekResultReadsHead
  intro tag s h
  have hexec := exec_peekResult_answered h
  refine ⟨fun hreset => ?resetting, fun hrun hnil => ?empty, fun id rest c hrun hcons hc => ?head,
    peekReply_content_noResult tag, peekReply_content_peeked tag⟩
  case resetting => rw [hexec, State.peekBody_resetting hreset]
  case empty => rw [hexec, State.peekBody_empty hrun hnil]
  case head =>
    intro body
    have hread : s.peekBody = body := State.peekBody_head hrun hcons hc
    refine ⟨by rw [hexec, hread], fun tag' h' => ?_⟩
    rw [exec_peekResult_answered h', State.answered_peekBody, hread]

end Sys2Proof.Machine
end

section
/-! SUPPORT. HELLO (08 R170): its owner looks at neither the engine state nor any block, so an accepted HELLO is answered at once
with the line rate, and the reply's other bytes are the constants of the part. -/

namespace Sys2Proof.Machine

/-! ### The request -/

theorem State.takeHello_accepted (s : State) (tag : Byte) :
    (s.accepted tag).takeHello tag = s.answered .hello tag (.hello s.link.lineRate) := by
  have hrate : (s.accepted tag).link.lineRate = s.link.lineRate := rfl
  rw [State.takeHello, State.accepted_reply, hrate]

/-- An accepted HELLO is answered whatever the engine state, and changes nothing outside the link. -/
theorem exec_hello_answered {s : State} {tag : Byte} (h : Takes s .hello tag []) :
    exec (.hello tag []) s = .next (s.answered .hello tag (.hello s.link.lineRate)) := by
  have hdecode : decodeEmpty [] = some () := rfl
  calc exec (.hello tag []) s
      = .next (s.request .hello tag [] decodeEmpty (fun _ s => s.takeHello tag)) := rfl
    _ = .next ((s.accepted tag).takeHello tag) := by rw [State.request_taken h hdecode]
    _ = .next (s.answered .hello tag (.hello s.link.lineRate)) := by rw [State.takeHello_accepted]

/-! ### The bytes of the reply (08 R177) -/

/-- The bytes of a HELLO reply up to the line rate: kind, tag, status, vendor code, part code, silicon revision. -/
def helloPrefix (tag : Byte) : List Byte := [0x81, tag, 0x00, 0x21, 0x5E, 0x40, 0x08, 1]

/-- The bytes of a HELLO reply after the line rate: the numbers of ports and the sizes. -/
def helloSizes : List Byte := [8, 4, 0x00, 0x02, 0x00, 0x01, 0x00, 0x00, 0x10, 0x00, 8, 64, 0x20, 0x80]

theorem helloPrefix_field (tag : Byte) :
    num 1 (0x80 + RequestKind.hello.code) ++ raw [tag] ++ num 1 Status.ok.code ++ (num 2 0x5E21 ++ num 2 0x0840 ++ num 1 1) =
      (helloPrefix tag).map some := rfl

theorem helloSizes_field :
    num 1 8 ++ num 1 4 ++ num 2 Config.slotCount ++ num 2 Config.tableSize ++ num 4 Config.storeSize ++ num 1 Config.tagLimit
      ++ num 1 Config.noticeQueueSize ++ num 2 Config.maxLength = helloSizes.map some := by decide

/-- Of a HELLO reply only the tag and the line rate depend on the state. -/
theorem helloReply_content (tag : Byte) (rate : LineRate) :
    ({ kind := .hello, tag := tag, body := .hello rate, linkRefusal := false } : Reply).content =
      (helloPrefix tag ++ leBytes 1 rate.mbits ++ helloSizes).map some := by
  rw [List.map_append, List.map_append, ← helloPrefix_field, ← helloSizes_field]
  simp only [Reply.content, ReplyBody.statusOf, ReplyBody.fields, num, List.append_assoc]

/-- Settles O12: the answer looks at no engine state, and the layout is evaluated at each of the three line rates. -/
theorem helloAnswered : Obligations.HelloAnswered := by
  unfold Obligations.HelloAnswered
  intro tag s h
  refine ⟨exec_hello_answered h, fun rate => ?bytes⟩
  case bytes =>
    rw [helloReply_content]
    cases rate with
    | mbit3 => rfl
    | mbit6 => rfl
    | mbit12 => rfl

end Sys2Proof.Machine
end

section
/-! SUPPORT. CLEAR COUNTERS (09 R183): clearing reaches the cumulative counters alone, and a countable event reaches the Summary
Unit alone, so each order of the two is a read of the cleared vector after the other's write. -/

namespace Sys2Proof.Machine

/-! ### A countable event (09 R178, R182) -/

theorem Counter.up_zero : Counter.zero.up = { value := 1, saturated := false } := rfl

@[simp] theorem State.tally_cumulative (s : State) (i : Fin Config.counterCount) :
    (s.tally i).summary.cumulative.get i = (s.summary.cumulative.get i).up := by
  simp only [State.tally, State.modSummary_summary, vector_get_set_self]

@[simp] theorem State.tally_counts (s : State) (i : Fin Config.counterCount) :
    (s.tally i).summary.counts.get i = countUp (s.summary.counts.get i) := by
  simp only [State.tally, State.modSummary_summary, vector_get_set_self]

/-- The link that a countable event leaves takes the same request. -/
theorem Takes.after_tally {s : State} {kind : RequestKind} {tag : Byte} {body : List Byte} (h : Takes s kind tag body)
    (i : Fin Config.counterCount) : Takes (s.tally i) kind tag body :=
  ⟨h.completes, h.accepted⟩

/-! ### Clearing -/

@[simp] theorem State.answered_summary (s : State) (kind : RequestKind) (tag : Byte) (body : ReplyBody) :
    (s.answered kind tag body).summary = s.summary := rfl

@[simp] theorem State.clearCumulative_link (s : State) : s.clearCumulative.link = s.link := rfl

@[simp] theorem State.clearCumulative_counts (s : State) : s.clearCumulative.summary.counts = s.summary.counts := rfl

@[simp] theorem State.clearCumulative_cumulative (s : State) :
    s.clearCumulative.summary.cumulative = Vector.replicate Config.counterCount Counter.zero := rfl

/-- The link's bookkeeping of a request is nothing that clearing touches. -/
theorem State.accepted_clearCumulative (s : State) (tag : Byte) :
    (s.accepted tag).clearCumulative = s.clearCumulative.accepted tag := rfl

theorem State.report_counters (s : State) : s.report.counters = s.summary.cumulative.toList := rfl

/-! ### The request -/

theorem exec_clearCounters_taken {s : State} {tag : Byte} (h : Takes s .clearCounters tag []) :
    exec (.clearCounters tag []) s = .next ((s.accepted tag).takeClear tag) := by
  have hdecode : decodeEmpty [] = some () := rfl
  calc exec (.clearCounters tag []) s
      = .next (s.request .clearCounters tag [] decodeEmpty (fun _ s => s.takeClear tag)) := rfl
    _ = .next ((s.accepted tag).takeClear tag) := by rw [State.request_taken h hdecode]

/-- A RESETTING engine clears nothing. -/
theorem exec_clearCounters_resetting {s : State} {tag : Byte} (h : Takes s .clearCounters tag [])
    (hreset : s.link.engine = .resetting) :
    exec (.clearCounters tag []) s = .next (s.answered .clearCounters tag (.refused .resetting)) := by
  rw [exec_clearCounters_taken h, State.takeClear, State.accepted_isResetting,
    if_pos (State.isResetting_of_resetting hreset), State.accepted_reply]

/-- A RUNNING engine clears, and the answer changes nothing outside the link. -/
theorem exec_clearCounters_running {s : State} {tag : Byte} (h : Takes s .clearCounters tag [])
    (hrun : s.link.engine = .running) :
    exec (.clearCounters tag []) s = .next (s.clearCumulative.answered .clearCounters tag .done) := by
  have hcleared : ¬ s.isResetting = true := by simp [State.isResetting_of_running hrun]
  rw [exec_clearCounters_taken h, State.takeClear, State.accepted_isResetting, if_neg hcleared,
    State.accepted_clearCumulative, State.accepted_reply]

/-! ### The meetings -/

/-- An event counted after the clearing is the first of its cumulative counter, and its interval count rises as it would have
risen before it. -/
theorem State.tally_after_clear (s : State) (tag : Byte) (i : Fin Config.counterCount) :
    let t := s.clearCumulative.answered .clearCounters tag .done
    (t.tally i).summary.cumulative.get i = { value := 1, saturated := false } ∧
      (t.tally i).summary.counts.get i = (s.tally i).summary.counts.get i := by
  refine ⟨?first, ?interval⟩
  case first =>
    rw [State.tally_cumulative, State.answered_summary, State.clearCumulative_cumulative, vector_get_replicate,
      Counter.up_zero]
  case interval =>
    rw [State.tally_counts, State.tally_counts, State.answered_summary, State.clearCumulative_counts]

/-- An event counted before the clearing is cleared with the rest, and its interval count keeps it. -/
theorem exec_clearCounters_after_tally {s : State} {tag : Byte} (h : Takes s .clearCounters tag [])
    (hrun : s.link.engine = .running) (i : Fin Config.counterCount) :
    ∃ u, exec (.clearCounters tag []) (s.tally i) = .next u ∧
      u.summary.cumulative.get i = { value := 0, saturated := false } ∧
      u.summary.counts.get i = (s.tally i).summary.counts.get i := by
  have hexec := exec_clearCounters_running (h.after_tally i) ((congrArg Link.engine (State.tally_link s i)).trans hrun)
  refine ⟨_, hexec, ?cleared, ?interval⟩
  case cleared =>
    rw [State.answered_summary, State.clearCumulative_cumulative, vector_get_replicate, Counter.zero]
  case interval => rw [State.answered_summary, State.clearCumulative_counts]

/-- Settles O15: the two engine states are the two branches of the request, and the meetings are its two orders with an event. -/
theorem clearCountersClears : Obligations.ClearCountersClears := by
  unfold Obligations.ClearCountersClears
  intro tag s h
  refine ⟨exec_clearCounters_resetting h, fun hrun => ⟨_, exec_clearCounters_running h hrun, ?frame, s.report_counters, ?after,
    fun i => ?meetings⟩⟩
  case frame => rfl
  case after =>
    rw [State.report_counters, State.answered_summary, State.clearCumulative_cumulative, Vector.toList_replicate,
      Counter.zero]
  case meetings =>
    obtain ⟨hfirst, hinterval⟩ := s.tally_after_clear tag i
    exact ⟨hfirst, hinterval, exec_clearCounters_after_tally h hrun i⟩

end Sys2Proof.Machine
end
